-- ==== Sys2Proof/Word.lean ====
section
/-! DEFINITION. The word types of RTCX (R9, R26, R31 of spec/): every value is unsigned and
arithmetic on an N-bit value is modulo 2^N, which is what `BitVec N` does. -/

namespace Sys2Proof

/-- A port register, the overflow count, a 32-bit ExtendedTime, a block count (R21, R31, R35). -/
abbrev Word := BitVec 32

/-- A value of the 24-bit counter or of its compare register (R26, R27). -/
abbrev Count := BitVec 24

/-- The 56-bit full extended time (R7 WALL_EXT_WIDTH, R12). -/
abbrev FullTime := BitVec 56

/-- The SEL field of a command word (R70). -/
abbrev Selector := BitVec 4

end Sys2Proof
end

