-- ==== Sys2Proof/Config.lean ====
section
/-! DEFINITION. What an implementation fixes (the parameters of R7), the moves the outside world can
make (R185), and the two free values of the model. A free value is an opaque constant: nothing can be
proved of it but what holds of every value. -/

namespace Sys2Proof

/-- The sleep depths, shallowest to deepest (R7 DEPTHS, R100). -/
inductive Depth where
  | em1
  | em2
  | em3
  | em4
  deriving DecidableEq, Repr, Inhabited

/-- A byte order of the port (R51 PORT_BYTE_ORDER). No rule depends on it. -/
inductive ByteOrder where
  | littleEndian
  | bigEndian
  deriving DecidableEq, Repr, Inhabited

/-- The parameters of R7 that are no fixed width. Every value of this type is a valid configuration:
an invalid one has no run at all (R163, R203), and here it has no value. -/
structure Params where
  /-- F_TICK, ticks per second, at least 1 (R7, R8). -/
  fTick : ℕ+
  /-- MIN_SLEEP_TICKS, any 32-bit value (R7, R203). -/
  minSleepTicks : Word
  /-- LF_CLOCK_SOURCE, the number of the selected source in the build's own enumeration, whose members
  no source lists (R7, N5). Every number names a configured source (R203); it affects no rule. -/
  lfClockSource : Nat
  /-- PRESCALER, which acts only through F_TICK (R7). -/
  prescaler : Nat
  /-- DEEPEST_AVAILABLE_MODE, one of EM1..EM4 (R7, R8). -/
  deepest : Depth
  /-- MATCH_ON_WRITE_EQUAL (R7, R132). -/
  matchOnWriteEqual : Bool
  /-- EXT_READ_ATOMIC, default true (R7, R114). -/
  extReadAtomic : Bool := true
  /-- ARM_CLEARS_COMPARE_FLAG, default true (R7, R132). -/
  armClearsCompareFlag : Bool := true
  /-- PORT_BYTE_ORDER (R51). -/
  portByteOrder : ByteOrder
  deriving DecidableEq, Repr, Inhabited

/-- The port registers, for an access that is not a whole word (R52). -/
inductive PortReg where
  | cmd
  | opa
  | opb
  | resp
  deriving DecidableEq, Repr, Inhabited

/-- The steps of Env (R185), and the access that R52 refuses. -/
inductive EnvStep where
  /-- WRITE_OPA(v). -/
  | writeOpa (v : Word)
  /-- WRITE_OPB(v). -/
  | writeOpb (v : Word)
  /-- ISSUE(w). -/
  | issue (w : Word)
  /-- READ_RESP. -/
  | readResp
  /-- MASK. -/
  | mask
  /-- UNMASK. -/
  | unmask
  /-- RAISE_WAKE. -/
  | raiseWake
  /-- SAVE_HOOK. -/
  | saveHook
  /-- RESTORE_HOOK. -/
  | restoreHook
  /-- A port access that is narrower than 32 bits or misaligned (R52, U5). -/
  | partialAccess (reg : PortReg)
  deriving DecidableEq, Repr, Inhabited

/-- Who takes the next atomic step (R11), or the block reset (R200). -/
inductive Turn where
  | tick
  | handler
  | frontEnd
  | env (e : EnvStep)
  | blockReset
  deriving DecidableEq, Repr, Inhabited

/-- The configuration this machine was built with. Free: R8 forbids building in a value. -/
opaque Config.params : Params

/-- Whose step is next where the outside world has settled nothing: any order is possible (R11). -/
opaque Config.freeTurn : Nat → Turn

end Sys2Proof
end

