-- ==== Sys2Proof/Syntax.lean ====
section
/-! DEFINITION. The commands of RTCX, one constructor per row of the opcode map (R75). The operands
OPA and OPB are registers of the port and no part of the word (R74), so only format CS carries a field. -/

namespace Sys2Proof

/-- A decoded command (R75). `sel` is the SEL field of format CS, which decodes at every value;
an illegal code is a fault of the command, not of the decoder (R72, R73, R77). -/
inductive Instr where
  /-- SLEEP_BLOCK, SEL = depth (R101). -/
  | sleepBlock (sel : Selector)
  /-- SLEEP_UNBLOCK, SEL = depth (R102). -/
  | sleepUnblock (sel : Selector)
  /-- SLEEP_ENTER (R104). -/
  | sleepEnter
  /-- RTC_INIT, SEL = use reason (R111). -/
  | rtcInit (sel : Selector)
  /-- RTC_FREE, SEL = use reason (R112). -/
  | rtcFree (sel : Selector)
  /-- RTC_READ_OVF (R113). -/
  | rtcReadOvf
  /-- RTC_READ_EXT (R115). -/
  | rtcReadExt
  /-- RTC_READ_WALL (R116). -/
  | rtcReadWall
  /-- RTC_WRITE_WALL, OPA = seconds (R117). -/
  | rtcWriteWall
  /-- TICKER_INIT (R134). -/
  | tickerInit
  /-- TICKER_READ (R135). -/
  | tickerRead
  /-- TICKER_SET_INT, OPA ignored, OPB = deadline (R136). -/
  | tickerSetInt
  /-- TICKER_GET_OVF_HI (R137). -/
  | tickerGetOvfHi
  /-- TICKER_GET_COMPARE (R138). -/
  | tickerGetCompare
  /-- TICKER_SLEEP_UNTIL, OPA = now, OPB = until (R139). -/
  | tickerSleepUntil
  deriving DecidableEq, Repr

end Sys2Proof
end

