-- ==== Sys2Proof/Machine/State.lean ====
section
/-! DEFINITION. The state of RTCX (R20) as plain data, the reasons a turn can stop the machine, and the
state right after block reset (R41). Three fields are the model's own and marked so: `params`, `agenda`
and `turnNo`. -/

namespace Sys2Proof.Machine

/-- A row of the opcode map (R75), as FE names it: the command without its selector (R24). -/
inductive Op where
  | sleepBlock
  | sleepUnblock
  | sleepEnter
  | rtcInit
  | rtcFree
  | rtcReadOvf
  | rtcReadExt
  | rtcReadWall
  | rtcWriteWall
  | tickerInit
  | tickerRead
  | tickerSetInt
  | tickerGetOvfHi
  | tickerGetCompare
  | tickerSleepUntil
  deriving DecidableEq, Repr

/-- The micro-steps the command rules name (R24). `sn1` and `sn2` are the time snapshot of a read
(R114); `armSn1` and `armSn2` are the snapshot an arm takes for itself (R133), told apart because
TICKER_SLEEP_UNTIL runs both (R139, whose SU3 is `armSn1`). -/
inductive Micro where
  | sb1
  | su1
  | slp1
  | slp2
  | ri1
  | rf1
  | ro1
  | sn1
  | sn2
  | rx2
  | rw2
  | ww2
  | ti1
  | armSn1
  | armSn2
  | ap
  | ac
  | tr2
  | go1
  | gc1
  | su2
  | su5
  deriving DecidableEq, Repr

/-- FE, the front-end's micro-step pointer (R24). -/
inductive FrontEndPtr where
  /-- No command in progress. -/
  | idle
  /-- A command word has been issued and awaits decoding. -/
  | decode
  /-- The command `op` is in progress and `k` is its next micro-step. -/
  | command (op : Op) (k : Micro)
  deriving DecidableEq, Repr

/-- The power modes (R36). -/
inductive PowerMode where
  | em0
  | em1
  | em2
  | em3
  | em4
  deriving DecidableEq, Repr

/-- A register with the two fields OF and COMP: IF (R28) or IEN (R29). -/
structure IntFlags where
  /-- Field OF. -/
  of : Bool
  /-- Field COMP. -/
  comp : Bool
  deriving DecidableEq, Repr

/-- USE, the use-reason set (R34). -/
structure UseSet where
  /-- USE.TK, general timekeeping. -/
  tk : Bool
  /-- USE.LPT, low-power ticker use. -/
  lpt : Bool
  deriving DecidableEq, Repr

/-- BLK, the sleep-gate counts (R35). -/
structure BlockCounts where
  em1 : Word
  em2 : Word
  em3 : Word
  em4 : Word
  deriving DecidableEq, Repr

/-- TMP, the front-end temporaries (R25). -/
structure Tmp where
  /-- OPA latched at decode. -/
  a : Word
  /-- OPB latched at decode. -/
  b : Word
  /-- The SEL field latched at decode. -/
  sel : Selector
  /-- The corrected-count sample of a two-sample read. -/
  osamp : Word
  /-- The ExtendedTime sample. -/
  now : Word
  /-- The counter sample. -/
  cnt : Count
  /-- The full extended-time sample. -/
  fullv : FullTime
  /-- The compare value computed for an arm. -/
  comp : Count
  /-- The logical deadline computed for an arm. -/
  cache : Word
  /-- The minimum-wake point of TICKER_SLEEP_UNTIL. -/
  wake : Word
  /-- The power mode selected by a sleep entry. -/
  mode : Depth
  deriving DecidableEq, Repr

/-- The fault codes of R161. -/
inductive FaultCode where
  /-- Code 1: RSV not 0, an unassigned OPC, or SEL not 0 in a format without a selector. -/
  | illegalCommand
  /-- Code 2: SEL out of range. -/
  | badArgument
  /-- Code 3: the RTC, or its LPT use, is absent. -/
  | notRunning
  /-- Code 4: a counter wrap while IF.OF is still 1. -/
  | overflowLost
  /-- Code 5: a sleep entry deeper than EM2 while the RTC runs. -/
  | retentionLost
  /-- Code 6: a block of a count already at its maximum. -/
  | blockCountOverflow
  /-- Code 7: a port write while FE is not Idle. -/
  | portBusy
  deriving DecidableEq, Repr

/-- A fault record (code, info) (R39, R160). -/
structure FaultRecord where
  code : FaultCode
  info : Word
  deriving DecidableEq, Repr

/-- Why a turn finds the machine stopped. -/
inductive Fault where
  /-- FAULT holds a record, so no agent takes a step (R39, R160): raised by every turn but a block
  reset, and by a command's meaning. Safe: the spec's block is halted too. -/
  | halted (record : FaultRecord)
  deriving DecidableEq, Repr

/-- Why a turn has no meaning. -/
inductive Refusal where
  /-- A command without a meaning in the model. Safe: raised by an arm of `exec`, by none now. -/
  | notModelled (mnemonic : String)
  /-- A narrow or misaligned port access, which R52 says a model must refuse: raised by Env's
  `partialAccess`. Safe. -/
  | partialPortAccess (reg : PortReg)
  deriving DecidableEq, Repr

/-- The state of RTCX (R20). -/
structure State where
  /-- CMD, the command word being executed (R21). -/
  cmd : Word
  /-- OPA, operand A (R21). -/
  opa : Word
  /-- OPB, operand B (R21). -/
  opb : Word
  /-- RESP, the response (R21). -/
  resp : Word
  /-- FE (R24). -/
  fe : FrontEndPtr
  /-- TMP (R25). -/
  tmp : Tmp
  /-- CNT, the hardware counter (R26). -/
  cnt : Count
  /-- COMP, the compare register (R27). -/
  comp : Count
  /-- IF, the interrupt flags (R28). -/
  flags : IntFlags
  /-- IEN, the interrupt enables (R29). -/
  ien : IntFlags
  /-- FREEZE (R30). -/
  freeze : Bool
  /-- COMP_SHADOW, the 24-bit shadow behind FREEZE (R30). -/
  compShadow : Count
  /-- OVF, the overflow count (R31). -/
  ovf : Word
  /-- CACHE, the logical deadline (R32). -/
  cache : Word
  /-- TBASE, the wall-clock epoch (R33). -/
  tbase : Word
  /-- USE (R34). -/
  use : UseSet
  /-- BLK (R35). -/
  blk : BlockCounts
  /-- PMODE (R36). -/
  pmode : PowerMode
  /-- IRQ_MASK, an input (R37). -/
  irqMask : Bool
  /-- EXT_WAKE, an input (R38). -/
  extWake : Bool
  /-- FAULT, the sticky fault record (R39). -/
  fault : Option FaultRecord
  /-- The model's own: the configuration (R7), which no step changes. -/
  params : Params
  /-- The model's own: the turns the outside world has settled, next first. -/
  agenda : List Turn
  /-- The model's own: how many free turns have been taken. -/
  turnNo : Nat
  deriving DecidableEq, Repr

/-- TMP after block reset: R41 says to model it as all zero. `mode` has no zero; DESIGN CHOICE EM1. -/
def Tmp.reset : Tmp :=
  { a := 0, b := 0, sel := 0, osamp := 0, now := 0, cnt := 0, fullv := 0, comp := 0, cache := 0,
    wake := 0, mode := .em1 }

/-- The state right after block reset (R41, R200). -/
def State.reset : State :=
  { cmd := 0, opa := 0, opb := 0, resp := 0, fe := .idle, tmp := Tmp.reset, cnt := 0, comp := 0,
    flags := ⟨false, false⟩, ien := ⟨false, false⟩, freeze := false, compShadow := 0, ovf := 0,
    cache := 0, tbase := 0, use := ⟨false, false⟩, blk := ⟨0, 0, 0, 0⟩, pmode := .em0,
    irqMask := false, extWake := false, fault := none, params := Config.params, agenda := [],
    turnNo := 0 }

end Sys2Proof.Machine
end

