-- ==== Sys2Proof/Machine/Flags.lean ====
section
/-! DEFINITION. Every flag computation the spec gives: what the Tick step, the Handler step and the arm
commit do to IF and IEN, and the interrupt line they make (R28, R29, R132, R165 to R170). -/

namespace Sys2Proof.Machine

/-- The two bits of IF or IEN: OF bit 0, COMP bit 1 (R28, R29). -/
def flagBits (f : IntFlags) : BitVec 2 := BitVec.ofBool f.comp ++ BitVec.ofBool f.of

/-- Both fields 0. -/
def noFlags : IntFlags := ⟨false, false⟩

/-- `rtc_line()`: a pending flag whose enable is 1 (R168). -/
def rtcLine (s : State) : Bool := (s.flags.of && s.ien.of) || (s.flags.comp && s.ien.comp)

/-- `wake_cond()` (R105). -/
def wakeCond (s : State) : Bool := rtcLine s || s.extWake

/-- IF after the counter moves to `c`: OF on a wrap to 0, COMP when the counter becomes COMP, whatever
the enables (R165 to R167). -/
def tickFlags (c comp : Count) (f : IntFlags) : IntFlags :=
  { of := f.of || c == 0, comp := f.comp || c == comp }

/-- IF.COMP after an arm commit: a stale flag is cleared when `clears`, and a compare value equal to
the counter sets it when `matchEq` (R132). -/
def commitFlag (clears matchEq : Bool) (armed cnt : Count) (old : Bool) : Bool :=
  (matchEq && armed == cnt) || (old && !clears)

/-- IEN after the Handler's service: a serviced match disables the compare interrupt (R170). -/
def serviceEnables (f ien : IntFlags) : IntFlags := { ien with comp := ien.comp && !f.comp }

/-- OVF after the Handler's service: one more when OF was pending, modulo 2^32 (R31, R170). -/
def serviceOvf (f : IntFlags) (ovf : Word) : Word := if f.of then ovf + 1 else ovf

end Sys2Proof.Machine
end

