-- ==== Sys2Proof/WellFormed.lean ====
section
/-! DEFINITION. Which commands carry a legal selector (R72, R73). An ill-formed command still decodes
and then raises BAD_ARGUMENT (R77), so no statement about decoding needs this check. -/

namespace Sys2Proof

/-- The legal depth codes, 1 = EM1 to 4 = EM4 (R73). -/
def legalDepth (sel : Selector) : Bool := 1 ≤ sel.toNat && sel.toNat ≤ 4

/-- The legal use reasons, 1 = TK and 2 = LPT (R72). -/
def legalReason (sel : Selector) : Bool := sel.toNat == 1 || sel.toNat == 2

/-- The command's selector, where its format has one, is a legal code. -/
def Instr.wellFormed : Instr → Bool
  | .sleepBlock sel => legalDepth sel
  | .sleepUnblock sel => legalDepth sel
  | .rtcInit sel => legalReason sel
  | .rtcFree sel => legalReason sel
  | .sleepEnter => true
  | .rtcReadOvf => true
  | .rtcReadExt => true
  | .rtcReadWall => true
  | .rtcWriteWall => true
  | .tickerInit => true
  | .tickerRead => true
  | .tickerSetInt => true
  | .tickerGetOvfHi => true
  | .tickerGetCompare => true
  | .tickerSleepUntil => true

end Sys2Proof
end

