-- ==== Sys2Proof/Decode.lean ====
section
/-! DEFINITION. The decoder of command words (R70, R71, R75 to R78), total on every 32-bit word, and
the encoder written from the same tables. -/

namespace Sys2Proof

/-- The four command formats (R71). -/
inductive Format where
  /-- No selector, no operand register. -/
  | c0
  /-- A selector, no operand register. -/
  | cs
  /-- OPA is an operand. -/
  | ca
  /-- OPA and OPB are operands. -/
  | cab
  deriving DecidableEq, Repr

/-- The OPC field, bits 7:0 (R70). -/
def opcField (w : Word) : BitVec 8 := w.extractLsb' 0 8

/-- The SEL field, bits 11:8 (R70). -/
def selField (w : Word) : Selector := w.extractLsb' 8 4

/-- The RSV field, bits 31:12, which must be 0 (R70). -/
def rsvField (w : Word) : BitVec 20 := w.extractLsb' 12 20

/-- The opcode map of R75: the command an OPC selects, given the SEL field. -/
def opcodeMap (opc : BitVec 8) (sel : Selector) : Option Instr :=
  match opc with
  | 0x01#8 => some (.sleepBlock sel)
  | 0x02#8 => some (.sleepUnblock sel)
  | 0x03#8 => some .sleepEnter
  | 0x10#8 => some (.rtcInit sel)
  | 0x11#8 => some (.rtcFree sel)
  | 0x12#8 => some .rtcReadOvf
  | 0x13#8 => some .rtcReadExt
  | 0x14#8 => some .rtcReadWall
  | 0x15#8 => some .rtcWriteWall
  | 0x20#8 => some .tickerInit
  | 0x21#8 => some .tickerRead
  | 0x22#8 => some .tickerSetInt
  | 0x23#8 => some .tickerGetOvfHi
  | 0x24#8 => some .tickerGetCompare
  | 0x25#8 => some .tickerSleepUntil
  | _ => none

/-- The format column of R75. -/
def Instr.format : Instr → Format
  | .sleepBlock _ => .cs
  | .sleepUnblock _ => .cs
  | .sleepEnter => .c0
  | .rtcInit _ => .cs
  | .rtcFree _ => .cs
  | .rtcReadOvf => .c0
  | .rtcReadExt => .c0
  | .rtcReadWall => .c0
  | .rtcWriteWall => .ca
  | .tickerInit => .c0
  | .tickerRead => .c0
  | .tickerSetInt => .cab
  | .tickerGetOvfHi => .c0
  | .tickerGetCompare => .c0
  | .tickerSleepUntil => .cab

/-- The decoder of R76: `none` is Fault(ILLEGAL_COMMAND), raised by the decode step. -/
def decode (w : Word) : Option Instr :=
  if rsvField w ≠ 0 then none
  else
    match opcodeMap (opcField w) (selField w) with
    | none => none
    | some i => if i.format ≠ .cs ∧ selField w ≠ 0 then none else some i

/-- The OPC column of R75. -/
def Instr.opc : Instr → BitVec 8
  | .sleepBlock _ => 0x01#8
  | .sleepUnblock _ => 0x02#8
  | .sleepEnter => 0x03#8
  | .rtcInit _ => 0x10#8
  | .rtcFree _ => 0x11#8
  | .rtcReadOvf => 0x12#8
  | .rtcReadExt => 0x13#8
  | .rtcReadWall => 0x14#8
  | .rtcWriteWall => 0x15#8
  | .tickerInit => 0x20#8
  | .tickerRead => 0x21#8
  | .tickerSetInt => 0x22#8
  | .tickerGetOvfHi => 0x23#8
  | .tickerGetCompare => 0x24#8
  | .tickerSleepUntil => 0x25#8

/-- The SEL field of the command's word: its selector in format CS, else 0 (R70, R71). -/
def Instr.selector : Instr → Selector
  | .sleepBlock sel => sel
  | .sleepUnblock sel => sel
  | .rtcInit sel => sel
  | .rtcFree sel => sel
  | .sleepEnter => 0
  | .rtcReadOvf => 0
  | .rtcReadExt => 0
  | .rtcReadWall => 0
  | .rtcWriteWall => 0
  | .tickerInit => 0
  | .tickerRead => 0
  | .tickerSetInt => 0
  | .tickerGetOvfHi => 0
  | .tickerGetCompare => 0
  | .tickerSleepUntil => 0

/-- The command word, RSV then SEL then OPC from bit 31 down (R70, R71). -/
def encode (i : Instr) : Word := (0#20 ++ i.selector) ++ i.opc

/-- The mnemonic column of R75, for listings (R79). -/
def Instr.mnemonic : Instr → String
  | .sleepBlock _ => "SLEEP_BLOCK"
  | .sleepUnblock _ => "SLEEP_UNBLOCK"
  | .sleepEnter => "SLEEP_ENTER"
  | .rtcInit _ => "RTC_INIT"
  | .rtcFree _ => "RTC_FREE"
  | .rtcReadOvf => "RTC_READ_OVF"
  | .rtcReadExt => "RTC_READ_EXT"
  | .rtcReadWall => "RTC_READ_WALL"
  | .rtcWriteWall => "RTC_WRITE_WALL"
  | .tickerInit => "TICKER_INIT"
  | .tickerRead => "TICKER_READ"
  | .tickerSetInt => "TICKER_SET_INT"
  | .tickerGetOvfHi => "TICKER_GET_OVF_HI"
  | .tickerGetCompare => "TICKER_GET_COMPARE"
  | .tickerSleepUntil => "TICKER_SLEEP_UNTIL"

/-- The command word made of the low `nbits` bits of `w`. A command is one 32-bit word and there is
no byte order to apply: the port moves it whole (R51, R70, R78). -/
def tableWord (nbits w : Nat) : Word := BitVec.ofNat 32 (w % 2 ^ nbits)

/-- What the decoder reads from a row of the opcode table whose bits are `w`. -/
def decodeTableWord (nbits w : Nat) : Option Instr := decode (tableWord nbits w)

end Sys2Proof
end

