-- ==== Sys2Proof/Machine/Operands.lean ====
section
/-! DEFINITION. The operands of a command: selectors (R72, R73), the use-reason set and the block counts
they select (R34, R35), and the correspondence between a command and the name FE gives it (R24). -/

namespace Sys2Proof.Machine

/-- The row of the opcode map a command comes from (R75). -/
def opOf : Instr → Op
  | .sleepBlock _ => .sleepBlock
  | .sleepUnblock _ => .sleepUnblock
  | .sleepEnter => .sleepEnter
  | .rtcInit _ => .rtcInit
  | .rtcFree _ => .rtcFree
  | .rtcReadOvf => .rtcReadOvf
  | .rtcReadExt => .rtcReadExt
  | .rtcReadWall => .rtcReadWall
  | .rtcWriteWall => .rtcWriteWall
  | .tickerInit => .tickerInit
  | .tickerRead => .tickerRead
  | .tickerSetInt => .tickerSetInt
  | .tickerGetOvfHi => .tickerGetOvfHi
  | .tickerGetCompare => .tickerGetCompare
  | .tickerSleepUntil => .tickerSleepUntil

/-- The command in progress, from FE's name for it and the selector latched in TMP.sel (R24, R25). -/
def instrOf (op : Op) (sel : Selector) : Instr :=
  match op with
  | .sleepBlock => .sleepBlock sel
  | .sleepUnblock => .sleepUnblock sel
  | .sleepEnter => .sleepEnter
  | .rtcInit => .rtcInit sel
  | .rtcFree => .rtcFree sel
  | .rtcReadOvf => .rtcReadOvf
  | .rtcReadExt => .rtcReadExt
  | .rtcReadWall => .rtcReadWall
  | .rtcWriteWall => .rtcWriteWall
  | .tickerInit => .tickerInit
  | .tickerRead => .tickerRead
  | .tickerSetInt => .tickerSetInt
  | .tickerGetOvfHi => .tickerGetOvfHi
  | .tickerGetCompare => .tickerGetCompare
  | .tickerSleepUntil => .tickerSleepUntil

/-- The first micro-step of the command's rule, which the decode step sets FE to (R76). -/
def firstMicro : Op → Micro
  | .sleepBlock => .sb1
  | .sleepUnblock => .su1
  | .sleepEnter => .slp1
  | .rtcInit => .ri1
  | .rtcFree => .rf1
  | .rtcReadOvf => .ro1
  | .rtcReadExt => .sn1
  | .rtcReadWall => .sn1
  | .rtcWriteWall => .sn1
  | .tickerInit => .ti1
  | .tickerRead => .sn1
  | .tickerSetInt => .armSn1
  | .tickerGetOvfHi => .go1
  | .tickerGetCompare => .gc1
  | .tickerSleepUntil => .sn1

/-- The depth a SEL code names, `none` for an illegal code (R73). -/
def depthOfSel (sel : Selector) : Option Depth :=
  match sel with
  | 1#4 => some .em1
  | 2#4 => some .em2
  | 3#4 => some .em3
  | 4#4 => some .em4
  | _ => none

/-- A use reason (R72). -/
inductive Reason where
  /-- General timekeeping, USE bit 0. -/
  | tk
  /-- Low-power ticker, USE bit 1. -/
  | lpt
  deriving DecidableEq, Repr

/-- The use reason a SEL code names, `none` for an illegal code (R72). -/
def reasonOfSel (sel : Selector) : Option Reason :=
  match sel with
  | 1#4 => some .tk
  | 2#4 => some .lpt
  | _ => none

/-- The depth's code, 1..4 (R73), which is also its place in the order of R100. -/
def depthCode : Depth → Nat
  | .em1 => 1
  | .em2 => 2
  | .em3 => 3
  | .em4 => 4

/-- The depth's code as the info word of a fault (R161). -/
def depthInfo (d : Depth) : Word := BitVec.ofNat 32 (depthCode d)

/-- The power mode of a depth (R36). -/
def modeOfDepth : Depth → PowerMode
  | .em1 => .em1
  | .em2 => .em2
  | .em3 => .em3
  | .em4 => .em4

/-- The number of a power mode, 0 = EM0 (R36). -/
def modeRank : PowerMode → Nat
  | .em0 => 0
  | .em1 => 1
  | .em2 => 2
  | .em3 => 3
  | .em4 => 4

/-- The shallower of two depths: the `min` of R103. -/
def minDepth (d e : Depth) : Depth := if depthCode d ≤ depthCode e then d else e

/-- USE = 0: the RTC is Uninitialized (R34, R110). -/
def useEmpty (u : UseSet) : Bool := !u.tk && !u.lpt

/-- `USE | (1 << (r - 1))` (R111). -/
def useInsert (r : Reason) (u : UseSet) : UseSet :=
  match r with
  | .tk => { u with tk := true }
  | .lpt => { u with lpt := true }

/-- `USE & ~(1 << (r - 1))` (R112). -/
def useErase (r : Reason) (u : UseSet) : UseSet :=
  match r with
  | .tk => { u with tk := false }
  | .lpt => { u with lpt := false }

/-- USE as the two bits of R34: TK bit 0, LPT bit 1. -/
def useBits (u : UseSet) : BitVec 2 := BitVec.ofBool u.lpt ++ BitVec.ofBool u.tk

/-- `x[BLK][d]` (R35). -/
def blkGet (b : BlockCounts) : Depth → Word
  | .em1 => b.em1
  | .em2 => b.em2
  | .em3 => b.em3
  | .em4 => b.em4

/-- `x[BLK][d] <- v` (R35). -/
def blkSet (b : BlockCounts) (d : Depth) (v : Word) : BlockCounts :=
  match d with
  | .em1 => { b with em1 := v }
  | .em2 => { b with em2 := v }
  | .em3 => { b with em3 := v }
  | .em4 => { b with em4 := v }

/-- The largest count, 0xFFFFFFFF (R7 BLOCK_COUNT_WIDTH). -/
def blkMax : Word := 0xFFFFFFFF#32

/-- The number of a fault code (R161). -/
def faultNumber : FaultCode → Nat
  | .illegalCommand => 1
  | .badArgument => 2
  | .notRunning => 3
  | .overflowLost => 4
  | .retentionLost => 5
  | .blockCountOverflow => 6
  | .portBusy => 7

end Sys2Proof.Machine
end

