-- ==== Sys2Proof/Machine/Ops.lean ====
section
/-! DEFINITION. The operations the meanings share: faults and the way out of them, the shared pure
functions of R12, R103, R118, R130 and R131, and the micro-steps that several commands run. -/

namespace Sys2Proof.Machine

/-! ### Faults (R160) -/

/-- What a turn of any agent answers: nothing moves while FAULT holds a record (R39, R160). -/
def unlessHalted (s : State) (k : Host.Outcome State Fault Refusal) :
    Host.Outcome State Fault Refusal :=
  match s.fault with
  | some r => .fault (.halted r)
  | none => k

/-- `raise Fault(code, info)`: none of the step's other writes, the record in FAULT, FE where it was
(R160). `s` is the state at the head of the step. -/
def raise (code : FaultCode) (info : Word) (s : State) : State :=
  { s with fault := some ⟨code, info⟩ }

/-- Block reset, the only way out of a fault (R200). The model's own fields are no state of the block
and stay. -/
def blockReset (s : State) : State :=
  { State.reset with params := s.params, agenda := s.agenda, turnNo := s.turnNo }

/-! ### Time (R12, R114, R118) -/

/-- `ovfc()`, the pending-corrected overflow count (R12). -/
def ovfc (s : State) : Word := s.ovf + (BitVec.ofBool s.flags.of).setWidth 32

/-- `ext32(o, c)`, the 32-bit ExtendedTime (R12). -/
def ext32 (o : Word) (c : Count) : Word := ((o % 0x100#32) <<< 24) ||| c.setWidth 32

/-- `full(o, c)`, the 56-bit full extended time (R12). -/
def full (o : Word) (c : Count) : FullTime := BitVec.ofNat 56 (o.toNat * 2 ^ 24 + c.toNat)

/-- `secs(f)`, whole seconds modulo 2^32 (R118). -/
def secs (fTick : ℕ+) (f : FullTime) : Word := BitVec.ofNat 32 (f.toNat / fTick)

/-- The sample a snapshot ends with: TMP.now, TMP.cnt and TMP.fullv from the count `o` and the counter
as it stands (R114). -/
def sampleTime (o : Word) (next : FrontEndPtr) (s : State) : State :=
  { s with
    tmp := { s.tmp with now := ext32 o s.cnt, cnt := s.cnt, fullv := full o s.cnt }
    fe := next }

/-- SN1: the whole snapshot when EXT_READ_ATOMIC, else the count alone, with SN2 to follow (R114). -/
def snapFirst (second next : FrontEndPtr) (s : State) : State :=
  if s.params.extReadAtomic then sampleTime (ovfc s) next s
  else { s with tmp := { s.tmp with osamp := ovfc s }, fe := second }

/-- SN2: the counter, joined to the count sampled in SN1 (R114). -/
def snapSecond (next : FrontEndPtr) (s : State) : State := sampleTime s.tmp.osamp next s

/-! ### Completion and preconditions (R22, R82, R110) -/

/-- The last micro-step of a command with a result (R82). -/
def respond (v : Word) (s : State) : State := { s with resp := v, fe := .idle }

/-- The check 'USE ≠ 0, else NOT_RUNNING' at the head of a first micro-step (R110). -/
def needRunning (s : State) (k : State) : State :=
  if useEmpty s.use then raise .notRunning s.cmd s else k

/-- The check 'USE.LPT = 1, else NOT_RUNNING' at the head of a first micro-step (R110). -/
def needTicker (s : State) (k : State) : State :=
  if s.use.lpt then k else raise .notRunning s.cmd s

/-! ### RTC lifecycle (R111, R112, R134) -/

/-- RI1 for a legal reason, which TI1 shares with r = LPT: hardware init on the first request, then the
reason is recorded (R111, R134). -/
def rtcStart (r : Reason) (next : FrontEndPtr) (s : State) : State :=
  if useEmpty s.use then
    if s.blk.em2 = blkMax then raise .blockCountOverflow (depthInfo .em2) s
    else
      { s with
        cnt := 0
        flags := noFlags
        ien := ⟨true, false⟩
        blk := blkSet s.blk .em2 (s.blk.em2 + 1)
        use := useInsert r s.use
        fe := next }
  else { s with use := useInsert r s.use, fe := next }

/-- Whether removing `r` makes a non-empty USE empty: the teardown case of R112. -/
def lastReason (r : Reason) (u : UseSet) : Bool := !useEmpty u && useEmpty (useErase r u)

/-- One block fewer, never below 0 (R102, R112). -/
def blkRelease (b : BlockCounts) (d : Depth) : BlockCounts :=
  if blkGet b d = 0 then b else blkSet b d (blkGet b d - 1)

/-- RF1 for a legal reason: the reason is removed, and the RTC torn down when it was the last (R112). -/
def rtcStop (r : Reason) (s : State) : State :=
  if lastReason r s.use then
    { s with
      use := useErase r s.use
      ien := noFlags
      flags := noFlags
      cnt := 0
      comp := 0
      blk := blkRelease s.blk .em2
      fe := .idle }
  else { s with use := useErase r s.use, fe := .idle }

/-! ### The ring and the deadline (R130 to R133) -/

/-- `between(A, B, C)`: B strictly between A and C going forward around the ring (R130). -/
def between (a b c : Word) : Bool := decide (0 < b - a) && decide (b - a < c - a)

/-- The far branch of R131: the deadline lies more than FAR_THRESHOLD ticks ahead. -/
def isFar (now deadline : Word) : Bool := decide (0x00FFFFFF#32 < deadline - now)

/-- `arm_compute(now, cnt, deadline)`: the compare value and the logical deadline (R131). -/
def armCompute (now : Word) (cnt : Count) (deadline : Word) : Count × Word :=
  if isFar now deadline then
    (cnt - 1, ((now + 0x01000000#32) &&& 0xFF000000#32) ||| (cnt.setWidth 32 - 1))
  else (deadline.setWidth 24, deadline)

/-- AP: the arm's compare value and logical deadline from its own sample (R133). -/
def armPrepare (deadline : Word) (next : FrontEndPtr) (s : State) : State :=
  { s with
    tmp := { s.tmp with
      comp := (armCompute s.tmp.now s.tmp.cnt deadline).1
      cache := (armCompute s.tmp.now s.tmp.cnt deadline).2 }
    fe := next }

/-- AC: freeze, compare register, flag, enable, cache, unfreeze, as one step (R132). The compare value
passes through COMP_SHADOW (R30). -/
def armCommit (next : FrontEndPtr) (s : State) : State :=
  { s with
    compShadow := s.tmp.comp
    comp := s.tmp.comp
    flags := { s.flags with
      comp := commitFlag s.params.armClearsCompareFlag s.params.matchOnWriteEqual s.tmp.comp s.cnt
        s.flags.comp }
    ien := { s.ien with comp := true }
    cache := s.tmp.cache
    freeze := false
    fe := next }

/-! ### Sleep (R103, R105) -/

/-- The walk of R103: the shallowest blocked depth, EM4 when none is blocked. -/
def shallowestBlocked (b : BlockCounts) : Depth :=
  if b.em1 ≠ 0 then .em1
  else if b.em2 ≠ 0 then .em2
  else if b.em3 ≠ 0 then .em3
  else .em4

/-- `select_mode()` (R103). -/
def selectMode (deepest : Depth) (b : BlockCounts) : Depth := minDepth (shallowestBlocked b) deepest

/-- The mode a sleep entry in `s` selects. -/
def selected (s : State) : Depth := selectMode s.params.deepest s.blk

/-- Deeper than RTC_RETAIN_DEPTH = EM2 (R7, R105). -/
def losesRetention (d : Depth) : Bool := decide (depthCode .em2 < depthCode d)

/-- SLP1: no sleep while a wake is pending, RETENTION_LOST for a mode below EM2 with the RTC running,
else asleep in the selected mode (R105). -/
def sleepEntry (asleep next : FrontEndPtr) (s : State) : State :=
  if wakeCond s then { s with extWake := false, fe := next }
  else if !useEmpty s.use && losesRetention (selected s) then
    raise .retentionLost (depthInfo (selected s)) s
  else
    { s with
      tmp := { s.tmp with mode := selected s }
      pmode := modeOfDepth (selected s)
      fe := asleep }

/-- SLP2: awaits the wake condition, then wakes and consumes EXT_WAKE (R105). -/
def sleepExit (next : FrontEndPtr) (s : State) : State :=
  if wakeCond s then { s with pmode := .em0, extWake := false, fe := next } else s

/-! ### Running a command (R24, R76) -/

/-- The decode step's writes for the command `i`: operands latched, FE at the command's first
micro-step (R76). -/
def latch (i : Instr) (s : State) : State :=
  { s with
    tmp := { s.tmp with sel := i.selector, a := s.opa, b := s.opb }
    fe := .command (opOf i) (firstMicro (opOf i)) }

/-- One front-end step of command `i`: the decode step while FE = Decode, its next micro-step `body k`
while FE = (op, k). In any other state `i` has no enabled step and nothing moves. -/
def commandStep (i : Instr) (s : State) (body : Micro → State) : Host.Outcome State Fault Refusal :=
  unlessHalted s <| .next <|
    match s.fe with
    | .idle => s
    | .decode => latch i s
    | .command op k => if op = opOf i then body k else s

end Sys2Proof.Machine
end

