-- ==== Sys2Proof/Machine/Agents.lean ====
section
/-! DEFINITION. The agents other than the front-end: Tick (R165), Handler (R170), Env (R185), and whose
turn is next (R11). An agent that is not enabled leaves the state as it is. -/

namespace Sys2Proof.Machine

/-- The counter one tick later, modulo 2^24 (R165). -/
def nextCount (s : State) : Count := s.cnt + 1

/-- The Tick step wraps the counter while the previous wrap is still pending (R167). -/
def losesOverflow (s : State) : Bool := nextCount s == 0 && s.flags.of

/-- TICK (R165): enabled while USE ≠ 0. -/
def tickStep (s : State) : State :=
  if useEmpty s.use then s
  else if losesOverflow s then raise .overflowLost s.ovf s
  else { s with flags := tickFlags (nextCount s) s.comp s.flags, cnt := nextCount s }

/-- `handler_enabled()`, but for FAULT = none, which `takeTurn` checks (R169). -/
def handlerEnabled (s : State) : Bool := rtcLine s && !s.irqMask && s.pmode == .em0

/-- HANDLER (R170): services every pending flag, whatever its enable. -/
def handlerStep (s : State) : State :=
  if handlerEnabled s then
    { s with
      flags := noFlags
      ovf := serviceOvf s.flags s.ovf
      ien := serviceEnables s.flags s.ien }
  else s

/-- BUSY, the port's one handshake: a command has completed when FE is Idle again (R23, R82). -/
def busy (s : State) : Bool := s.fe != .idle

/-- A write to a port register: PORT_BUSY with the register's number while FE is not Idle, and nothing
written (R22, R161, R185). -/
def portWrite (number : Word) (s written : State) : State :=
  if s.fe = .idle then written else raise .portBusy number s

/-- The value READ_RESP returns (R185). -/
def readResp (s : State) : Word := s.resp

/-- Env's steps (R185); a partial port access is refused (R52). -/
def envStep (e : EnvStep) (s : State) : Host.Outcome State Fault Refusal :=
  match e with
  | .writeOpa v => .next (portWrite 1 s { s with opa := v })
  | .writeOpb v => .next (portWrite 2 s { s with opb := v })
  | .issue w => .next (portWrite 0 s { s with cmd := w, fe := .decode })
  | .readResp => .next s
  | .mask => .next { s with irqMask := true }
  | .unmask => .next { s with irqMask := false }
  | .raiseWake => .next { s with extWake := true }
  | .saveHook => .next s
  | .restoreHook => .next s
  | .partialAccess reg => .refused (.partialPortAccess reg)

/-- Whose turn is next: what the outside world has settled, else the next free turn (R11). -/
def nextTurn (s : State) : Turn :=
  match s.agenda with
  | t :: _ => t
  | [] => Config.freeTurn s.turnNo

/-- The state once that turn is spent: only the model's own fields move. -/
def spendTurn (s : State) : State :=
  match s.agenda with
  | _ :: rest => { s with agenda := rest }
  | [] => { s with turnNo := s.turnNo + 1 }

end Sys2Proof.Machine
end

