-- ==== Sys2Proof/Machine/RtcDriver.lean ====
section
/-! DEFINITION. The RTC driver commands (41_rtc_driver.md): RTC_INIT, RTC_FREE, RTC_READ_OVF,
RTC_READ_EXT, RTC_READ_WALL, RTC_WRITE_WALL. -/

namespace Sys2Proof.Machine

/-- RI1 (R111). -/
def stepRI1 (sel : Selector) (s : State) : State :=
  match reasonOfSel sel with
  | none => raise .badArgument s.cmd s
  | some r => rtcStart r .idle s

/-- RF1 (R112). -/
def stepRF1 (sel : Selector) (s : State) : State :=
  match reasonOfSel sel with
  | none => raise .badArgument s.cmd s
  | some r => rtcStop r s

/-- RTC_INIT (R111). -/
def execRtcInit (sel : Selector) (s : State) : Host.Outcome State Fault Refusal :=
  commandStep (.rtcInit sel) s fun
    | .ri1 => stepRI1 sel s
    | _ => s

/-- RTC_FREE (R112). -/
def execRtcFree (sel : Selector) (s : State) : Host.Outcome State Fault Refusal :=
  commandStep (.rtcFree sel) s fun
    | .rf1 => stepRF1 sel s
    | _ => s

/-- RTC_READ_OVF (R113). -/
def execRtcReadOvf (s : State) : Host.Outcome State Fault Refusal :=
  commandStep .rtcReadOvf s fun
    | .ro1 => needRunning s (respond (ovfc s) s)
    | _ => s

/-- RTC_READ_EXT: the snapshot, then RX2 (R115). -/
def execRtcReadExt (s : State) : Host.Outcome State Fault Refusal :=
  commandStep .rtcReadExt s fun
    | .sn1 => needRunning s (snapFirst (.command .rtcReadExt .sn2) (.command .rtcReadExt .rx2) s)
    | .sn2 => snapSecond (.command .rtcReadExt .rx2) s
    | .rx2 => respond s.tmp.now s
    | _ => s

/-- The wall-clock seconds of the sampled full time: `secs(TMP.fullv)` (R116, R118). -/
def sampledSecs (s : State) : Word := secs s.params.fTick s.tmp.fullv

/-- RTC_READ_WALL: the snapshot, then RW2 (R116). -/
def execRtcReadWall (s : State) : Host.Outcome State Fault Refusal :=
  commandStep .rtcReadWall s fun
    | .sn1 => needRunning s (snapFirst (.command .rtcReadWall .sn2) (.command .rtcReadWall .rw2) s)
    | .sn2 => snapSecond (.command .rtcReadWall .rw2) s
    | .rw2 => respond (sampledSecs s + s.tbase) s
    | _ => s

/-- RTC_WRITE_WALL: the snapshot, then WW2 (R117). -/
def execRtcWriteWall (s : State) : Host.Outcome State Fault Refusal :=
  commandStep .rtcWriteWall s fun
    | .sn1 => needRunning s (snapFirst (.command .rtcWriteWall .sn2) (.command .rtcWriteWall .ww2) s)
    | .sn2 => snapSecond (.command .rtcWriteWall .ww2) s
    | .ww2 => { s with tbase := s.tmp.a - sampledSecs s, fe := .idle }
    | _ => s

end Sys2Proof.Machine
end

