-- ==== Sys2Proof/Machine/SleepGate.lean ====
section
/-! DEFINITION. The sleep gate commands (40_sleep_gate.md): SLEEP_BLOCK, SLEEP_UNBLOCK, SLEEP_ENTER.
A micro-step that is none of the command's leaves the state as it is: FE never names one. -/

namespace Sys2Proof.Machine

/-- SB1 (R101). -/
def stepSB1 (sel : Selector) (s : State) : State :=
  match depthOfSel sel with
  | none => raise .badArgument s.cmd s
  | some d =>
    if blkGet s.blk d = blkMax then raise .blockCountOverflow (depthInfo d) s
    else { s with blk := blkSet s.blk d (blkGet s.blk d + 1), fe := .idle }

/-- SU1 (R102). -/
def stepSU1 (sel : Selector) (s : State) : State :=
  match depthOfSel sel with
  | none => raise .badArgument s.cmd s
  | some d => { s with blk := blkRelease s.blk d, fe := .idle }

/-- SLEEP_BLOCK (R101). -/
def execSleepBlock (sel : Selector) (s : State) : Host.Outcome State Fault Refusal :=
  commandStep (.sleepBlock sel) s fun
    | .sb1 => stepSB1 sel s
    | _ => s

/-- SLEEP_UNBLOCK (R102). -/
def execSleepUnblock (sel : Selector) (s : State) : Host.Outcome State Fault Refusal :=
  commandStep (.sleepUnblock sel) s fun
    | .su1 => stepSU1 sel s
    | _ => s

/-- SLEEP_ENTER, the sleep-entry sequence with next = Idle (R104, R105). -/
def execSleepEnter (s : State) : Host.Outcome State Fault Refusal :=
  commandStep .sleepEnter s fun
    | .slp1 => sleepEntry (.command .sleepEnter .slp2) .idle s
    | .slp2 => sleepExit .idle s
    | _ => s

end Sys2Proof.Machine
end

