-- ==== Sys2Proof/Machine/Ticker.lean ====
section
/-! DEFINITION. The ticker front-end commands (42_ticker.md): TICKER_INIT, TICKER_READ, TICKER_SET_INT,
TICKER_GET_OVF_HI, TICKER_GET_COMPARE, TICKER_SLEEP_UNTIL. -/

namespace Sys2Proof.Machine

/-- INIT_DEADLINE (R7, R134). -/
def initDeadline : Word := 0xFFFFFFFF#32

/-- TICKER_INIT: TI1, then arm(0xFFFFFFFF, Idle) (R134). -/
def execTickerInit (s : State) : Host.Outcome State Fault Refusal :=
  commandStep .tickerInit s fun
    | .ti1 => rtcStart .lpt (.command .tickerInit .armSn1) s
    | .armSn1 => snapFirst (.command .tickerInit .armSn2) (.command .tickerInit .ap) s
    | .armSn2 => snapSecond (.command .tickerInit .ap) s
    | .ap => armPrepare initDeadline (.command .tickerInit .ac) s
    | .ac => armCommit .idle s
    | _ => s

/-- TICKER_READ: the snapshot, then TR2 (R135). -/
def execTickerRead (s : State) : Host.Outcome State Fault Refusal :=
  commandStep .tickerRead s fun
    | .sn1 => needTicker s (snapFirst (.command .tickerRead .sn2) (.command .tickerRead .tr2) s)
    | .sn2 => snapSecond (.command .tickerRead .tr2) s
    | .tr2 => respond s.tmp.now s
    | _ => s

/-- TICKER_SET_INT: arm(TMP.b, Idle); TMP.a is never read (R136). -/
def execTickerSetInt (s : State) : Host.Outcome State Fault Refusal :=
  commandStep .tickerSetInt s fun
    | .armSn1 =>
      needTicker s (snapFirst (.command .tickerSetInt .armSn2) (.command .tickerSetInt .ap) s)
    | .armSn2 => snapSecond (.command .tickerSetInt .ap) s
    | .ap => armPrepare s.tmp.b (.command .tickerSetInt .ac) s
    | .ac => armCommit .idle s
    | _ => s

/-- TICKER_GET_OVF_HI (R137). -/
def execTickerGetOvfHi (s : State) : Host.Outcome State Fault Refusal :=
  commandStep .tickerGetOvfHi s fun
    | .go1 => needTicker s (respond (ovfc s >>> 8) s)
    | _ => s

/-- TICKER_GET_COMPARE (R138). -/
def execTickerGetCompare (s : State) : Host.Outcome State Fault Refusal :=
  commandStep .tickerGetCompare s fun
    | .gc1 => needTicker s (respond s.cache s)
    | _ => s

/-- The minimum-wake point, the sampled time plus MIN_SLEEP_TICKS modulo 2^32 (R139). -/
def minimumWake (s : State) : Word := s.tmp.now + s.params.minSleepTicks

/-- SU2: sleep only if the minimum-wake point lies between now and until (R139). -/
def stepSU2 (s : State) : State :=
  if between s.tmp.a (minimumWake s) s.tmp.b then
    { s with
      tmp := { s.tmp with wake := minimumWake s }
      fe := .command .tickerSleepUntil .armSn1 }
  else respond 0 { s with tmp := { s.tmp with wake := minimumWake s } }

/-- TICKER_SLEEP_UNTIL: read, SU2, arm(TMP.b, SLP1), the sleep sequence, SU5 (R139). -/
def execTickerSleepUntil (s : State) : Host.Outcome State Fault Refusal :=
  commandStep .tickerSleepUntil s fun
    | .sn1 =>
      needTicker s (snapFirst (.command .tickerSleepUntil .sn2) (.command .tickerSleepUntil .su2) s)
    | .sn2 => snapSecond (.command .tickerSleepUntil .su2) s
    | .su2 => stepSU2 s
    | .armSn1 => snapFirst (.command .tickerSleepUntil .armSn2) (.command .tickerSleepUntil .ap) s
    | .armSn2 => snapSecond (.command .tickerSleepUntil .ap) s
    | .ap => armPrepare s.tmp.b (.command .tickerSleepUntil .ac) s
    | .ac => armCommit (.command .tickerSleepUntil .slp1) s
    | .slp1 =>
      sleepEntry (.command .tickerSleepUntil .slp2) (.command .tickerSleepUntil .su5) s
    | .slp2 => sleepExit (.command .tickerSleepUntil .su5) s
    | .su5 => respond 1 s
    | _ => s

end Sys2Proof.Machine
end

