-- ==== Sys2Proof/Machine/Dispatch.lean ====
section
/-! DEFINITION. The meaning of each command: one front-end micro-step of it (R24). -/

namespace Sys2Proof.Machine

def exec (i : Instr) (s : State) : Host.Outcome State Fault Refusal :=
  match i with
  | .sleepBlock sel => Sys2Proof.Machine.execSleepBlock sel s
  | .sleepUnblock sel => Sys2Proof.Machine.execSleepUnblock sel s
  | .sleepEnter => Sys2Proof.Machine.execSleepEnter s
  | .rtcInit sel => Sys2Proof.Machine.execRtcInit sel s
  | .rtcFree sel => Sys2Proof.Machine.execRtcFree sel s
  | .rtcReadOvf => Sys2Proof.Machine.execRtcReadOvf s
  | .rtcReadExt => Sys2Proof.Machine.execRtcReadExt s
  | .rtcReadWall => Sys2Proof.Machine.execRtcReadWall s
  | .rtcWriteWall => Sys2Proof.Machine.execRtcWriteWall s
  | .tickerInit => Sys2Proof.Machine.execTickerInit s
  | .tickerRead => Sys2Proof.Machine.execTickerRead s
  | .tickerSetInt => Sys2Proof.Machine.execTickerSetInt s
  | .tickerGetOvfHi => Sys2Proof.Machine.execTickerGetOvfHi s
  | .tickerGetCompare => Sys2Proof.Machine.execTickerGetCompare s
  | .tickerSleepUntil => Sys2Proof.Machine.execTickerSleepUntil s

end Sys2Proof.Machine
end

