-- ==== Sys2Proof/Machine/FrontEnd.lean ====
section
/-! DEFINITION. The front-end's turn (R24, R76) and the turn of any agent. -/

namespace Sys2Proof.Machine

/-- The command the front-end is executing or about to decode: the word in CMD while FE = Decode (R76),
the latched command while FE = (op, k) (R24). -/
def currentInstr (s : State) : Option Instr :=
  match s.fe with
  | .idle => none
  | .decode => decode s.cmd
  | .command op _ => some (instrOf op s.tmp.sel)

/-- The front-end's turn: nothing while FE = Idle, ILLEGAL_COMMAND for a word that selects no row, else
the next micro-step of the command (R24, R76, R77). -/
def frontEndStep (s : State) : Host.Outcome State Fault Refusal :=
  if s.fe = .idle then .next s
  else
    match currentInstr s with
    | none => .next (raise .illegalCommand s.cmd s)
    | some i => exec i s

/-- The step of the agent whose turn it is. While FAULT holds a record no agent steps (R160); a block
reset is no agent's step (R200). -/
def takeTurn (t : Turn) (s : State) : Host.Outcome State Fault Refusal :=
  match t with
  | .blockReset => .next (blockReset s)
  | .tick => unlessHalted s (.next (tickStep s))
  | .handler => unlessHalted s (.next (handlerStep s))
  | .frontEnd => unlessHalted s (frontEndStep s)
  | .env e => unlessHalted s (envStep e s)

end Sys2Proof.Machine
end

