-- ==== Sys2Proof/Machine/Step.lean ====
section
/-! DEFINITION. One atomic step of the machine (R11, R55), and the state in which the next step decodes
a given command word. -/

namespace Sys2Proof.Machine

/-- One atomic step: the agent whose turn it is takes it. -/
def step (s : State) : Host.Outcome State Fault Refusal := takeTurn (nextTurn s) (spendTurn s)

/-- `s` with the command word issued (CMD written, FE = Decode, as R185's ISSUE does) and the next turn
the front-end's, so that the next step is the decode step of that word (R76). -/
def State.withFetchWord (s : State) (nbits w : Nat) : State :=
  { s with cmd := tableWord nbits w, fe := .decode, agenda := .frontEnd :: s.agenda }

end Sys2Proof.Machine
end

