-- ==== Sys2Proof/Machine/Pseudo.lean ====
section
/-! DEFINITION. The pseudo-commands of R80 and the Env steps that issue a command (R79, R81). An
expansion runs as separate commands, with other agents' steps allowed between them. -/

namespace Sys2Proof.Machine

/-- One issued command with the operand registers Env writes before it (R79, R81). -/
structure Call where
  instr : Instr
  opa : Option Word
  opb : Option Word
  deriving DecidableEq, Repr

/-- The Env steps of a call: the operand writes, then ISSUE (R81). -/
def callSteps (c : Call) : List EnvStep :=
  (c.opa.toList.map .writeOpa) ++ (c.opb.toList.map .writeOpb) ++ [.issue (encode c.instr)]

/-- The pseudo-commands of R80. -/
inductive Pseudo where
  /-- TICKER_ARM d. -/
  | tickerArm (deadline : Word)
  /-- WAIT_UNTIL u. -/
  | waitUntil (until_ : Word)
  /-- RTC_RELEASE_ALL. -/
  | rtcReleaseAll
  deriving DecidableEq, Repr

/-- The first call of the expansion (R80). -/
def pseudoFirst : Pseudo → Call
  | .tickerArm d => ⟨.tickerSetInt, some 0, some d⟩
  | .waitUntil _ => ⟨.tickerRead, none, none⟩
  | .rtcReleaseAll => ⟨.rtcFree 1, none, none⟩

/-- The second call, if any, given the RESP that READ_RESP returns after the first (R80). -/
def pseudoSecond (resp : Word) : Pseudo → Option Call
  | .tickerArm _ => none
  | .waitUntil u => some ⟨.tickerSleepUntil, some resp, some u⟩
  | .rtcReleaseAll => some ⟨.rtcFree 2, none, none⟩

end Sys2Proof.Machine
end

