-- ==== Sys2Proof/Safety.lean ====
section
/-! DEFINITION. The terms the claims use: a command at a micro-step, the consistent states (R42), runs
under a given schedule of turns (R55, R56), and the counts taken along a run. -/

namespace Sys2Proof.Machine

/-- No fault is recorded and the next micro-step of the front-end is `k` of command `op` (R24). -/
abbrev AtStep (op : Op) (k : Micro) (s : State) : Prop := s.fault = none ∧ s.fe = .command op k

/-- The micro-steps of each command's rule (R101 to R139). -/
def microSteps : Op → List Micro
  | .sleepBlock => [.sb1]
  | .sleepUnblock => [.su1]
  | .sleepEnter => [.slp1, .slp2]
  | .rtcInit => [.ri1]
  | .rtcFree => [.rf1]
  | .rtcReadOvf => [.ro1]
  | .rtcReadExt => [.sn1, .sn2, .rx2]
  | .rtcReadWall => [.sn1, .sn2, .rw2]
  | .rtcWriteWall => [.sn1, .sn2, .ww2]
  | .tickerInit => [.ti1, .armSn1, .armSn2, .ap, .ac]
  | .tickerRead => [.sn1, .sn2, .tr2]
  | .tickerSetInt => [.armSn1, .armSn2, .ap, .ac]
  | .tickerGetOvfHi => [.go1]
  | .tickerGetCompare => [.gc1]
  | .tickerSleepUntil => [.sn1, .sn2, .su2, .armSn1, .armSn2, .ap, .ac, .slp1, .slp2, .su5]

/-- The commands that need USE ≠ 0 (R110). -/
def needsRunning : Op → Bool
  | .rtcReadOvf => true
  | .rtcReadExt => true
  | .rtcReadWall => true
  | .rtcWriteWall => true
  | _ => false

/-- The commands that need USE.LPT = 1 (R110). -/
def needsTicker : Op → Bool
  | .tickerRead => true
  | .tickerSetInt => true
  | .tickerGetOvfHi => true
  | .tickerGetCompare => true
  | .tickerSleepUntil => true
  | _ => false

/-- The running check of R110 passes. -/
def ready (op : Op) (u : UseSet) : Bool :=
  (!needsRunning op || !useEmpty u) && (!needsTicker op || u.lpt)

/-- The use a command relies on after its first micro-step: what it checked, and for TICKER_INIT the
reason it has itself recorded (R110, R134). -/
def relied (op : Op) (u : UseSet) : Bool := ready op u && (op != .tickerInit || u.lpt)

/-- The consistent states: what holds at every step boundary of a run from reset. -/
structure Consistent (s : State) : Prop where
  /-- R42 item 1. -/
  stopped : useEmpty s.use = true → s.cnt = 0 ∧ s.flags = noFlags ∧ s.ien = noFlags ∧ s.comp = 0
  /-- R42 item 2. -/
  overflowEnabled : useEmpty s.use = false → s.ien.of = true
  /-- R42 item 3. -/
  compareEnabled : s.ien.comp = true → useEmpty s.use = false
  /-- R42 item 6. -/
  thawed : s.freeze = false
  /-- FE names a micro-step of its command (R24). -/
  named : ∀ op k, s.fe = .command op k → k ∈ microSteps op
  /-- A command past its first micro-step still has the use it checked (R110). -/
  checked : ∀ op k, s.fe = .command op k → k ≠ firstMicro op → relied op s.use = true
  /-- SN2 exists only in the two-sample form (R114). -/
  twoSample : ∀ op k, s.fe = .command op k → k = .sn2 ∨ k = .armSn2 →
    s.params.extReadAtomic = false
  /-- A prepared arm has its logical deadline tied to its compare value (R131). -/
  tied : ∀ op, s.fe = .command op .ac → s.tmp.cache.setWidth 24 = s.tmp.comp
  /-- The block is out of EM0 only while held in SLP2 (R36, R179). -/
  held : s.pmode ≠ .em0 → ∃ op, s.fe = .command op .slp2
  /-- Held in SLP2, the block is in the mode the entry selected (R105). -/
  mode : ∀ op, s.fe = .command op .slp2 → s.pmode = modeOfDepth s.tmp.mode
  /-- With the RTC running the block is never deeper than EM2 (R165, R179). -/
  retained : useEmpty s.use = false → modeRank s.pmode ≤ 2

/-- One step of the machine in which the outside world gives the turn to `t`. -/
def afterTurn (t : Turn) (s : State) : Host.Outcome State Fault Refusal :=
  step { s with agenda := [t] }

/-- The run of the machine under a schedule, stopping at the first fault or refusal (R55). -/
def runTurns : List Turn → State → Host.Outcome State Fault Refusal
  | [], s => .next s
  | t :: ts, s =>
    match afterTurn t s with
    | .next s' => runTurns ts s'
    | .fault r => .fault r
    | .refused r => .refused r

/-- The turns that may fall between the micro-steps of a command without any tick, port write or block
reset: the front-end's own, the Handler's, and Env's masking, wake, read and hook steps. -/
def isQuiet : Turn → Bool
  | .frontEnd => true
  | .handler => true
  | .env .readResp => true
  | .env .mask => true
  | .env .unmask => true
  | .env .raiseWake => true
  | .env .saveHook => true
  | .env .restoreHook => true
  | _ => false

/-- How many of the turns are the front-end's. -/
def frontEndTurns (ts : List Turn) : Nat := ts.count .frontEnd

/-- The turn is a Tick step that takes the counter from 0xFFFFFF to 0 (R167). -/
def isWrap (t : Turn) (s : State) : Bool := t == .tick && !useEmpty s.use && nextCount s == 0

/-- How many counter wraps the schedule makes (R42 item 5). -/
def countWraps : List Turn → State → Nat
  | [], _ => 0
  | t :: ts, s =>
    (isWrap t s).toNat +
      match afterTurn t s with
      | .next s' => countWraps ts s'
      | .fault _ => 0
      | .refused _ => 0

/-- The turn is the RTC_FREE micro-step that empties USE (R112). -/
def isTeardown (t : Turn) (s : State) : Bool :=
  t == .frontEnd && s.fe == .command .rtcFree .rf1 &&
    match reasonOfSel s.tmp.sel with
    | some r => lastReason r s.use
    | none => false

/-- No turn of the schedule discards a pending overflow: no teardown with IF.OF = 1 and no block reset
(R42 item 5, R112). -/
def keepsOverflow : List Turn → State → Bool
  | [], _ => true
  | t :: ts, s =>
    t != .blockReset && !(isTeardown t s && s.flags.of) &&
      match afterTurn t s with
      | .next s' => keepsOverflow ts s'
      | .fault _ => true
      | .refused _ => true

/-- The commands with a result in RESP (R22, R75). -/
def hasResult : Op → Bool
  | .rtcReadOvf => true
  | .rtcReadExt => true
  | .rtcReadWall => true
  | .tickerRead => true
  | .tickerGetOvfHi => true
  | .tickerGetCompare => true
  | .tickerSleepUntil => true
  | _ => false

/-- The commands whose only wait is for other agents to let them run: all but SLEEP_ENTER and
TICKER_SLEEP_UNTIL (R186). -/
def isBounded : Op → Bool
  | .sleepEnter => false
  | .tickerSleepUntil => false
  | _ => true

/-- The host's view of a halt: a state with a fault recorded is no normal end of a command (R187). -/
def isSafe (s : State) : Bool := s.fault.isNone

end Sys2Proof.Machine
end

