-- ==== Sys2Proof/Certificates/Slice0/Obligations.lean ====
section
/-! DEFINITION. The statements about the model, for the provers: encodings, what each command's
micro-steps do and leave alone, the other agents, faults, whole runs, and invariants of every step. -/

open Sys2Proof Sys2Proof.Machine

/-! ### Encoding (R70 to R78) -/

/-- R75, R76: the decoder answers a command exactly on that command's word, so every command decodes
from its own word, each with its selector, and no other word decodes to it. -/
def Obligations.DecodeIffEncodedWord : Prop :=
  ∀ (w : Word) (i : Instr), decode w = some i ↔ w = encode i

/-- R77: the words that raise ILLEGAL_COMMAND are those with RSV ≠ 0, those whose OPC is 0x00,
0x04..0x0F, 0x16..0x1F or 0x26..0xFF, and those of a format without selector whose SEL ≠ 0. -/
def Obligations.IllegalWordsAreThoseListed : Prop :=
  ∀ w : Word, decode w = none ↔
    (w >>> 12 ≠ 0 ∨
      w.toNat % 256 = 0 ∨ (4 ≤ w.toNat % 256 ∧ w.toNat % 256 ≤ 0x0F) ∨
      (0x16 ≤ w.toNat % 256 ∧ w.toNat % 256 ≤ 0x1F) ∨ 0x26 ≤ w.toNat % 256 ∨
      (w.toNat % 256 ∉ [0x01, 0x02, 0x10, 0x11] ∧ w.toNat / 256 % 16 ≠ 0))

/-- R75: the four words the spec writes out, and SLEEP_ENTER, decode to the commands it names. -/
def Obligations.WrittenOutWordsDecode : Prop :=
  decode 0x00000201#32 = some (.sleepBlock 2) ∧ decode 0x00000210#32 = some (.rtcInit 2) ∧
  decode 0x00000110#32 = some (.rtcInit 1) ∧ decode 0x00000022#32 = some .tickerSetInt ∧
  decode 0x00000003#32 = some .sleepEnter

/-! ### A step runs the decoded command (R24, R76) -/

/-- On the front-end's turn, a step of a block that is not halted is `exec` of the command the front-end
is at: the decoded word of CMD while FE = Decode, the latched command while FE = (op, k). The step adds
only the spending of the turn, which moves no field but the model's own. -/
def Obligations.StepRunsTheCommand : Prop :=
  ∀ (s : State) (i : Instr), s.fault = none → nextTurn s = .frontEnd →
    (s.fe = .decode ∧ decode s.cmd = some i ∨
      ∃ op k, s.fe = .command op k ∧ i = instrOf op s.tmp.sel) →
    step s = exec i (spendTurn s)

/-- The state in which a word is placed for the next step: that step is `exec` of the decoded command,
in the state with the word issued (log entry 10 says how a program comes to run). -/
def Obligations.FetchWordRunsNext : Prop :=
  ∀ (s : State) (w : Nat) (i : Instr), s.fault = none → decodeTableWord 32 w = some i →
    step (s.withFetchWord 32 w) = exec i { s with cmd := tableWord 32 w, fe := .decode }

/-- R76: for a word that selects a row, the decode step latches SEL, OPA and OPB and sets FE to the
command's first micro-step, and touches nothing else; any other word raises ILLEGAL_COMMAND with CMD. -/
def Obligations.DecodeStepLatches : Prop :=
  ∀ s : State, s.fault = none → s.fe = .decode →
    (∀ i, decode s.cmd = some i →
      exec i s = .next { s with
        tmp := { s.tmp with sel := selField s.cmd, a := s.opa, b := s.opb }
        fe := .command (opOf i) (firstMicro (opOf i)) }) ∧
    (decode s.cmd = none → frontEndStep s = .next { s with fault := some ⟨.illegalCommand, s.cmd⟩ })

/-! ### The sleep gate (R101 to R105) -/

/-- R101: SLEEP_BLOCK. Its word is 0x00000d01; a selector that is no depth raises BAD_ARGUMENT with CMD, a
count at its maximum BLOCK_COUNT_OVERFLOW with the depth; else the command completes with that count one
higher and nothing else changed. -/
def Obligations.SleepBlockCountsOrFaults : Prop :=
  ∀ (sel : Selector) (s : State), AtStep .sleepBlock .sb1 s →
    (encode (.sleepBlock sel)).toNat = sel.toNat * 256 + 0x01 ∧
    (sel.toNat < 1 ∨ 4 < sel.toNat →
      exec (.sleepBlock sel) s = .next { s with fault := some ⟨.badArgument, s.cmd⟩ }) ∧
    ∀ d, sel.toNat = depthCode d →
      (blkGet s.blk d = 0xFFFFFFFF#32 →
        exec (.sleepBlock sel) s =
          .next { s with fault := some ⟨.blockCountOverflow, BitVec.ofNat 32 (depthCode d)⟩ }) ∧
      (blkGet s.blk d ≠ 0xFFFFFFFF#32 →
        ∃ b, exec (.sleepBlock sel) s = .next { s with blk := b, fe := .idle } ∧
          blkGet b d = blkGet s.blk d + 1 ∧ ∀ e, e ≠ d → blkGet b e = blkGet s.blk e)

/-- R102: SLEEP_UNBLOCK. Its word is 0x00000d02; a selector that is no depth raises BAD_ARGUMENT with CMD;
else the command completes with that count one lower, or still 0, and nothing else changed. -/
def Obligations.SleepUnblockCountsOrFaults : Prop :=
  ∀ (sel : Selector) (s : State), AtStep .sleepUnblock .su1 s →
    (encode (.sleepUnblock sel)).toNat = sel.toNat * 256 + 0x02 ∧
    (sel.toNat < 1 ∨ 4 < sel.toNat →
      exec (.sleepUnblock sel) s = .next { s with fault := some ⟨.badArgument, s.cmd⟩ }) ∧
    ∀ d, sel.toNat = depthCode d →
      ∃ b, exec (.sleepUnblock sel) s = .next { s with blk := b, fe := .idle } ∧
        (blkGet b d).toNat = (blkGet s.blk d).toNat - 1 ∧ ∀ e, e ≠ d → blkGet b e = blkGet s.blk e

/-- R103, R100: the selected mode is never deeper than a blocked depth nor than the deepest available
mode, and it is the deepest available mode or a blocked depth: the walk's min. -/
def Obligations.SelectedModeRespectsBlocks : Prop :=
  ∀ (deepest : Depth) (b : BlockCounts),
    depthCode (selectMode deepest b) ≤ depthCode deepest ∧
    (∀ d, blkGet b d ≠ 0 → depthCode (selectMode deepest b) ≤ depthCode d) ∧
    (selectMode deepest b = deepest ∨ blkGet b (selectMode deepest b) ≠ 0)

/-- R105: the sleep-entry sequence, of SLEEP_ENTER (then Idle) and of TICKER_SLEEP_UNTIL (then SU5). With
the wake condition pending SLP1 goes on without sleeping; without it, SLP1 raises RETENTION_LOST with the
selected mode if the RTC runs and that mode is below EM2, and else enters it; SLP2 goes on, awake, on the
wake condition. Without it SLP2 has no step (R105 awaits), and that the front-end's turn then passes is the
model's reading, log entry 2. -/
def Obligations.SleepSequenceSleepsAndWakes : Prop :=
  ∀ (op : Op) (next : FrontEndPtr) (s : State),
    op = .sleepEnter ∧ next = .idle ∨
      op = .tickerSleepUntil ∧ next = .command .tickerSleepUntil .su5 →
    s.fault = none →
    let wake := (s.flags.of && s.ien.of) || (s.flags.comp && s.ien.comp) || s.extWake
    let m := selectMode s.params.deepest s.blk
    (s.fe = .command op .slp1 → wake = true →
      exec (instrOf op s.tmp.sel) s = .next { s with extWake := false, fe := next }) ∧
    (s.fe = .command op .slp1 → wake = false → s.use ≠ ⟨false, false⟩ ∧ 2 < depthCode m →
      exec (instrOf op s.tmp.sel) s =
        .next { s with fault := some ⟨.retentionLost, BitVec.ofNat 32 (depthCode m)⟩ }) ∧
    (s.fe = .command op .slp1 → wake = false → s.use = ⟨false, false⟩ ∨ depthCode m ≤ 2 →
      exec (instrOf op s.tmp.sel) s = .next { s with
        tmp := { s.tmp with mode := m }, pmode := modeOfDepth m, fe := .command op .slp2 }) ∧
    (s.fe = .command op .slp2 → wake = true →
      exec (instrOf op s.tmp.sel) s = .next { s with pmode := .em0, extWake := false, fe := next }) ∧
    (s.fe = .command op .slp2 → wake = false → exec (instrOf op s.tmp.sel) s = .next s)

/-! ### RTC lifecycle (R111, R112) -/

/-- R111: RTC_INIT. Its word is 0x00000r10; a selector that is no use reason raises BAD_ARGUMENT with CMD.
The first request clears CNT and IF, enables the overflow interrupt alone and blocks EM2, unless that
count is at its maximum, which raises BLOCK_COUNT_OVERFLOW with EM2; a later request only adds the
reason. -/
def Obligations.RtcInitStartsOrFaults : Prop :=
  ∀ (sel : Selector) (s : State), AtStep .rtcInit .ri1 s →
    (encode (.rtcInit sel)).toNat = sel.toNat * 256 + 0x10 ∧
    (sel ≠ 1 ∧ sel ≠ 2 →
      exec (.rtcInit sel) s = .next { s with fault := some ⟨.badArgument, s.cmd⟩ }) ∧
    (sel = 1 ∨ sel = 2 →
      (s.use = ⟨false, false⟩ → s.blk.em2 = 0xFFFFFFFF#32 →
        exec (.rtcInit sel) s = .next { s with fault := some ⟨.blockCountOverflow, 2⟩ }) ∧
      (s.use = ⟨false, false⟩ → s.blk.em2 ≠ 0xFFFFFFFF#32 →
        exec (.rtcInit sel) s = .next { s with
          cnt := 0
          flags := ⟨false, false⟩
          ien := ⟨true, false⟩
          blk := { s.blk with em2 := s.blk.em2 + 1 }
          use := ⟨sel == 1, sel == 2⟩
          fe := .idle }) ∧
      (s.use ≠ ⟨false, false⟩ →
        exec (.rtcInit sel) s = .next { s with
          use := ⟨s.use.tk || sel == 1, s.use.lpt || sel == 2⟩
          fe := .idle }))

/-- R112: RTC_FREE. Its word is 0x00000r11; a selector that is no use reason raises BAD_ARGUMENT with CMD.
Removing the last reason clears IEN, IF, CNT and COMP and unblocks EM2, never below 0; otherwise only the
reason goes. OVF, CACHE and TBASE stay. -/
def Obligations.RtcFreeStopsOrFaults : Prop :=
  ∀ (sel : Selector) (s : State), AtStep .rtcFree .rf1 s →
    let left : UseSet := ⟨s.use.tk && sel != 1, s.use.lpt && sel != 2⟩
    (encode (.rtcFree sel)).toNat = sel.toNat * 256 + 0x11 ∧
    (sel ≠ 1 ∧ sel ≠ 2 →
      exec (.rtcFree sel) s = .next { s with fault := some ⟨.badArgument, s.cmd⟩ }) ∧
    (sel = 1 ∨ sel = 2 →
      (s.use ≠ ⟨false, false⟩ ∧ left = ⟨false, false⟩ →
        exec (.rtcFree sel) s = .next { s with
          use := ⟨false, false⟩
          ien := ⟨false, false⟩
          flags := ⟨false, false⟩
          cnt := 0
          comp := 0
          blk := { s.blk with em2 := if s.blk.em2 = 0 then 0 else s.blk.em2 - 1 }
          fe := .idle }) ∧
      (s.use = ⟨false, false⟩ ∨ left ≠ ⟨false, false⟩ →
        exec (.rtcFree sel) s = .next { s with use := left, fe := .idle }))

/-- R110: the first micro-step of a command that needs the RTC, or its LPT use, raises NOT_RUNNING with
CMD when it is absent, and does nothing else. -/
def Obligations.NotRunningFaults : Prop :=
  ∀ (op : Op) (sel : Selector) (s : State), AtStep op (firstMicro op) s →
    (needsRunning op = true ∧ s.use = ⟨false, false⟩ ∨ needsTicker op = true ∧ s.use.lpt = false) →
    exec (instrOf op sel) s = .next { s with fault := some ⟨.notRunning, s.cmd⟩ }

/-! ### Reads (R113 to R116, R135, R137, R138) -/

/-- R113: RTC_READ_OVF. Its word is 0x00000012; it raises NOT_RUNNING with CMD while the RTC is not running,
and else responds with the overflow count, plus 1 modulo 2^32 while a wrap is pending, and leaves the
flag. -/
def Obligations.ReadOvfRespondsOrFaults : Prop :=
  ∀ s : State, AtStep .rtcReadOvf .ro1 s →
    encode .rtcReadOvf = 0x00000012#32 ∧
    (s.use = ⟨false, false⟩ →
      exec .rtcReadOvf s = .next { s with fault := some ⟨.notRunning, s.cmd⟩ }) ∧
    (s.use ≠ ⟨false, false⟩ →
      exec .rtcReadOvf s = .next { s with
        resp := BitVec.ofNat 32 ((s.ovf.toNat + s.flags.of.toNat) % 2 ^ 32), fe := .idle })

/-- R137, R138: TICKER_GET_OVF_HI (word 0x00000023) responds with bits 31:8 of the corrected count, and
TICKER_GET_COMPARE (word 0x00000024) with CACHE; both raise NOT_RUNNING with CMD without LPT use. -/
def Obligations.TickerGettersRespondOrFault : Prop :=
  ∀ s : State, s.fault = none →
    encode .tickerGetOvfHi = 0x00000023#32 ∧ encode .tickerGetCompare = 0x00000024#32 ∧
    (s.use.lpt = false →
      (s.fe = .command .tickerGetOvfHi .go1 →
        exec .tickerGetOvfHi s = .next { s with fault := some ⟨.notRunning, s.cmd⟩ }) ∧
      (s.fe = .command .tickerGetCompare .gc1 →
        exec .tickerGetCompare s = .next { s with fault := some ⟨.notRunning, s.cmd⟩ })) ∧
    (s.use.lpt = true →
      (s.fe = .command .tickerGetOvfHi .go1 →
        exec .tickerGetOvfHi s = .next { s with
          resp := BitVec.ofNat 32 ((s.ovf.toNat + s.flags.of.toNat) % 2 ^ 32 / 2 ^ 8)
          fe := .idle }) ∧
      (s.fe = .command .tickerGetCompare .gc1 →
        exec .tickerGetCompare s = .next { s with resp := s.cache, fe := .idle }))

/-- R114, R133: the time snapshot of the commands that read or arm. With `o` the corrected count, SN1
samples the time whole under EXT_READ_ATOMIC and the count alone otherwise; SN2 then joins the counter
to that count. The pairs name each command with its SN1, its SN2 and the micro-step that follows. -/
def Obligations.TimeSnapshotSamples : Prop :=
  ∀ (op : Op) (first second after : Micro) (s : State),
    (op, first, second, after) ∈
      [(Op.rtcReadExt, Micro.sn1, Micro.sn2, Micro.rx2), (.rtcReadWall, .sn1, .sn2, .rw2),
        (.rtcWriteWall, .sn1, .sn2, .ww2), (.tickerRead, .sn1, .sn2, .tr2),
        (.tickerSleepUntil, .sn1, .sn2, .su2), (.tickerInit, .armSn1, .armSn2, .ap),
        (.tickerSetInt, .armSn1, .armSn2, .ap), (.tickerSleepUntil, .armSn1, .armSn2, .ap)] →
    s.fault = none → ready op s.use = true →
    let o := if s.flags.of then s.ovf + 1 else s.ovf
    let sampled (n : Word) : Tmp :=
      { s.tmp with
        now := BitVec.ofNat 32 (n.toNat % 256 * 2 ^ 24 + s.cnt.toNat)
        cnt := s.cnt
        fullv := BitVec.ofNat 56 (n.toNat * 2 ^ 24 + s.cnt.toNat) }
    (s.fe = .command op first → s.params.extReadAtomic = true →
      exec (instrOf op s.tmp.sel) s = .next { s with tmp := sampled o, fe := .command op after }) ∧
    (s.fe = .command op first → s.params.extReadAtomic = false →
      exec (instrOf op s.tmp.sel) s =
        .next { s with tmp := { s.tmp with osamp := o }, fe := .command op second }) ∧
    (s.fe = .command op second →
      exec (instrOf op s.tmp.sel) s =
        .next { s with tmp := sampled s.tmp.osamp, fe := .command op after })

/-- R115, R116, R117, R135: the last micro-step of the commands that read or write the time completes
them: RESP is the sampled ExtendedTime, or the sampled seconds plus TBASE; RTC_WRITE_WALL leaves RESP
and sets TBASE to OPA as latched less the sampled seconds. -/
def Obligations.TimeCommandsComplete : Prop :=
  ∀ s : State, s.fault = none →
    let seconds : Word := BitVec.ofNat 32 (s.tmp.fullv.toNat / s.params.fTick)
    (s.fe = .command .rtcReadExt .rx2 →
      exec .rtcReadExt s = .next { s with resp := s.tmp.now, fe := .idle }) ∧
    (s.fe = .command .tickerRead .tr2 →
      exec .tickerRead s = .next { s with resp := s.tmp.now, fe := .idle }) ∧
    (s.fe = .command .rtcReadWall .rw2 →
      exec .rtcReadWall s = .next { s with resp := seconds + s.tbase, fe := .idle }) ∧
    (s.fe = .command .rtcWriteWall .ww2 →
      exec .rtcWriteWall s = .next { s with tbase := s.tmp.a - seconds, fe := .idle })

/-- R118: the seconds of a full time are its whole quotient by F_TICK, modulo 2^32. -/
def Obligations.SecondsAreTheWholeQuotient : Prop :=
  ∀ (fTick : ℕ+) (f : FullTime), (secs fTick f).toNat = f.toNat / fTick % 2 ^ 32

/-- R54: a micro-step of a read command changes nothing but RESP, FE and TMP; only the NOT_RUNNING
fault of its first micro-step writes anything else. -/
def Obligations.ReadCommandsOnlyRespond : Prop :=
  ∀ (i : Instr) (s t : State),
    i ∈ [Instr.rtcReadOvf, .rtcReadExt, .rtcReadWall, .tickerRead, .tickerGetOvfHi,
      .tickerGetCompare] →
    exec i s = .next t → t.fault = none →
    t = { s with resp := t.resp, fe := t.fe, tmp := t.tmp }

/-! ### The ring and the deadline (R130 to R134, R136, R139) -/

/-- R130: between(A, B, C) by the two distances from A modulo 2^32, which is the rule; and in the three cases
of A against C, unsigned, which the rule marks as its own inference ('The rule is equivalent to this
three-case form [derived: from this rule by case analysis]'). -/
def Obligations.BetweenOnTheRing : Prop :=
  ∀ a b c : Word,
    (between a b c = true ↔
      0 < (b.toNat + 2 ^ 32 - a.toNat) % 2 ^ 32 ∧
      (b.toNat + 2 ^ 32 - a.toNat) % 2 ^ 32 < (c.toNat + 2 ^ 32 - a.toNat) % 2 ^ 32) ∧
    (between a b c = true ↔
      if a.toNat < c.toNat then a.toNat < b.toNat ∧ b.toNat < c.toNat
      else if c.toNat < a.toNat then a.toNat < b.toNat ∨ b.toNat < c.toNat
      else False)

/-- R131: the deadline cached by an arm has the compare value as its low 24 bits, in both branches. -/
def Obligations.ArmCacheLowBitsAreTheCompareValue : Prop :=
  ∀ (now : Word) (cnt : Count) (deadline : Word),
    (armCompute now cnt deadline).2.toNat % 2 ^ 24 = (armCompute now cnt deadline).1.toNat

/-- R131: arm_compute. Up to 0x00FFFFFF ticks ahead, modulo 2^32, the deadline is cached as it is and its
low 24 bits compared. Farther ahead the compare value is one below the counter, and the cache is the next
epoch of now joined with the counter less one, all bits set for a counter of 0; for a counter of at least
1 sampled with now, that is now + 0x00FFFFFF. -/
def Obligations.ArmComputeBranches : Prop :=
  ∀ (now : Word) (cnt : Count) (deadline : Word),
    let delta := (deadline.toNat + 2 ^ 32 - now.toNat) % 2 ^ 32
    (delta ≤ 0x00FFFFFF →
      (armCompute now cnt deadline).1.toNat = deadline.toNat % 2 ^ 24 ∧
      (armCompute now cnt deadline).2 = deadline) ∧
    (0x00FFFFFF < delta →
      (armCompute now cnt deadline).1.toNat = (cnt.toNat + 2 ^ 24 - 1) % 2 ^ 24 ∧
      (0 < cnt.toNat →
        (armCompute now cnt deadline).2.toNat =
          (now.toNat + 2 ^ 24) % 2 ^ 32 / 2 ^ 24 * 2 ^ 24 + (cnt.toNat - 1)) ∧
      (cnt.toNat = 0 → (armCompute now cnt deadline).2 = 0xFFFFFFFF#32) ∧
      (0 < cnt.toNat → now.toNat % 2 ^ 24 = cnt.toNat →
        (armCompute now cnt deadline).2 = now + 0x00FFFFFF#32))

/-- R132, R133: the arm's last two micro-steps in the three commands that arm (R134, R136, R139). AP
computes from the arm's own sample, for deadline 0xFFFFFFFF in TICKER_INIT and TMP.b otherwise; AC
writes COMP, IF.COMP, IEN.COMP and CACHE at once, ends unfrozen, and goes on to Idle or, in
TICKER_SLEEP_UNTIL, to SLP1. What the shadow behind FREEZE holds is left open: it is never observable (R30). -/
def Obligations.ArmPreparesAndCommits : Prop :=
  ∀ (op : Op) (deadline : Word) (next : FrontEndPtr) (s : State),
    (op = .tickerInit ∧ deadline = 0xFFFFFFFF#32 ∧ next = .idle ∨
      op = .tickerSetInt ∧ deadline = s.tmp.b ∧ next = .idle ∨
      op = .tickerSleepUntil ∧ deadline = s.tmp.b ∧ next = .command .tickerSleepUntil .slp1) →
    s.fault = none →
    (s.fe = .command op .ap →
      exec (instrOf op s.tmp.sel) s = .next { s with
        tmp := { s.tmp with
          comp := (armCompute s.tmp.now s.tmp.cnt deadline).1
          cache := (armCompute s.tmp.now s.tmp.cnt deadline).2 }
        fe := .command op .ac }) ∧
    (s.fe = .command op .ac →
      ∃ shadow, exec (instrOf op s.tmp.sel) s = .next { s with
        comp := s.tmp.comp
        compShadow := shadow
        freeze := false
        flags := { s.flags with
          comp :=
            if s.params.matchOnWriteEqual = true ∧ s.tmp.comp = s.cnt then true
            else if s.params.armClearsCompareFlag then false
            else s.flags.comp }
        ien := { s.ien with comp := true }
        cache := s.tmp.cache
        fe := next })

/-- R134, R111: TI1 starts the RTC for ticker use exactly as RTC_INIT LPT does, its fault included, and goes
on to the arm. -/
def Obligations.TickerInitStartsTheRtc : Prop :=
  ∀ s : State, AtStep .tickerInit .ti1 s →
    (s.use = ⟨false, false⟩ → s.blk.em2 = 0xFFFFFFFF#32 →
      exec .tickerInit s = .next { s with fault := some ⟨.blockCountOverflow, 2⟩ }) ∧
    (s.use = ⟨false, false⟩ → s.blk.em2 ≠ 0xFFFFFFFF#32 →
      exec .tickerInit s = .next { s with
        cnt := 0
        flags := ⟨false, false⟩
        ien := ⟨true, false⟩
        blk := { s.blk with em2 := s.blk.em2 + 1 }
        use := ⟨false, true⟩
        fe := .command .tickerInit .armSn1 }) ∧
    (s.use ≠ ⟨false, false⟩ →
      exec .tickerInit s =
        .next { s with use := { s.use with lpt := true }, fe := .command .tickerInit .armSn1 })

/-- R139: the decision and the completion of TICKER_SLEEP_UNTIL. SU2 takes the sampled time plus
MIN_SLEEP_TICKS as minimum-wake point; unless it lies between now and until the command completes with
RESP = 0, else it goes on to arm. SU5, after the sleep, completes with RESP = 1. -/
def Obligations.SleepUntilDecidesAndCompletes : Prop :=
  ∀ s : State, s.fault = none →
    let wake := s.tmp.now + s.params.minSleepTicks
    (s.fe = .command .tickerSleepUntil .su2 → between s.tmp.a wake s.tmp.b = false →
      exec .tickerSleepUntil s =
        .next { s with tmp := { s.tmp with wake := wake }, resp := 0, fe := .idle }) ∧
    (s.fe = .command .tickerSleepUntil .su2 → between s.tmp.a wake s.tmp.b = true →
      exec .tickerSleepUntil s = .next { s with
        tmp := { s.tmp with wake := wake }
        fe := .command .tickerSleepUntil .armSn1 }) ∧
    (s.fe = .command .tickerSleepUntil .su5 →
      exec .tickerSleepUntil s = .next { s with resp := 1, fe := .idle })

/-! ### Tick, Handler and Env (R165 to R170, R185) -/

/-- R165 to R167: the Tick step of a running block. The counter goes up by one modulo 2^24; IF.OF is set
when it becomes 0 and IF.COMP when it becomes COMP, whatever IEN; a wrap with IF.OF = 1 instead raises
OVERFLOW_LOST with OVF, and then neither the wrap nor the match is applied. -/
def Obligations.TickAdvancesTheCounter : Prop :=
  ∀ s : State, s.fault = none → useEmpty s.use = false →
    let c : Count := BitVec.ofNat 24 ((s.cnt.toNat + 1) % 2 ^ 24)
    (s.cnt.toNat ≠ 0xFFFFFF ∨ s.flags.of = false →
      takeTurn .tick s = .next { s with
        cnt := c
        flags := ⟨s.flags.of || s.cnt.toNat == 0xFFFFFF, s.flags.comp || c == s.comp⟩ }) ∧
    (s.cnt.toNat = 0xFFFFFF → s.flags.of = true →
      takeTurn .tick s = .next { s with fault := some ⟨.overflowLost, s.ovf⟩ })

/-- R169, R170: the Handler step. While the RTC line is high, IRQ_MASK = 0 and PMODE = EM0 it services
every pending flag: OF into OVF, COMP by disabling the compare interrupt; nothing else changes. -/
def Obligations.HandlerServicesPendingFlags : Prop :=
  ∀ s : State, s.fault = none → s.irqMask = false → s.pmode = .em0 →
    (s.flags.of = true ∧ s.ien.of = true ∨ s.flags.comp = true ∧ s.ien.comp = true) →
    takeTurn .handler s = .next { s with
      flags := ⟨false, false⟩
      ovf := if s.flags.of then s.ovf + 1 else s.ovf
      ien := if s.flags.comp then { s.ien with comp := false } else s.ien }

/-- R165, R169, R24: an agent that is not enabled has no step, so its turn moves nothing (that such a turn
passes, and is not refused, is the model's choice: log entry 2). -/
def Obligations.DisabledAgentsPass : Prop :=
  ∀ s : State, s.fault = none →
    (s.use = ⟨false, false⟩ → takeTurn .tick s = .next s) ∧
    (s.irqMask = true ∨ s.pmode ≠ .em0 ∨ rtcLine s = false → takeTurn .handler s = .next s) ∧
    (s.fe = .idle → takeTurn .frontEnd s = .next s)

/-- R185, R22: Env's steps. The port writes take effect only while FE = Idle and otherwise raise PORT_BUSY
with the number of the register and write nothing; the others are taken at any step boundary; none is
taken while FAULT holds a record. -/
def Obligations.EnvStepsAsListed : Prop :=
  ∀ (s : State) (v : Word),
    (s.fault = none →
      (s.fe = .idle →
        takeTurn (.env (.writeOpa v)) s = .next { s with opa := v } ∧
        takeTurn (.env (.writeOpb v)) s = .next { s with opb := v } ∧
        takeTurn (.env (.issue v)) s = .next { s with cmd := v, fe := .decode }) ∧
      (s.fe ≠ .idle →
        takeTurn (.env (.writeOpa v)) s = .next { s with fault := some ⟨.portBusy, 1⟩ } ∧
        takeTurn (.env (.writeOpb v)) s = .next { s with fault := some ⟨.portBusy, 2⟩ } ∧
        takeTurn (.env (.issue v)) s = .next { s with fault := some ⟨.portBusy, 0⟩ }) ∧
      takeTurn (.env .readResp) s = .next s ∧ readResp s = s.resp ∧
      takeTurn (.env .mask) s = .next { s with irqMask := true } ∧
      takeTurn (.env .unmask) s = .next { s with irqMask := false } ∧
      takeTurn (.env .raiseWake) s = .next { s with extWake := true } ∧
      takeTurn (.env .saveHook) s = .next s ∧
      takeTurn (.env .restoreHook) s = .next s) ∧
    (s.fault ≠ none → ∀ e t, takeTurn (.env e) s ≠ .next t)

/-- R52: a narrow or misaligned access to a port register refuses the run. -/
def Obligations.PartialPortAccessIsRefused : Prop :=
  ∀ (s : State) (reg : PortReg), s.fault = none → nextTurn s = .env (.partialAccess reg) →
    step s = .refused (.partialPortAccess reg)

/-! ### Faults and reset (R39, R160, R200) -/

/-- R39, R160: while FAULT holds a record no agent takes a step, and a block reset is the only way on: it
leaves every element of R41 at its reset value. (That a halted turn answers the fault outcome is the
model's choice, log entry 3, and that a reset keeps the model's own fields is log entry 4.) -/
def Obligations.FaultHaltsUntilReset : Prop :=
  ∀ (s : State) (r : FaultRecord), s.fault = some r →
    (nextTurn s ≠ .blockReset → step s = .fault (.halted r)) ∧
    (nextTurn s = .blockReset → ∃ t, step s = .next t ∧
      t = { State.reset with
        params := s.params, agenda := (spendTurn s).agenda, turnNo := (spendTurn s).turnNo })

/-- R160: the step that raises a fault applies none of its other writes: FAULT alone changes, whichever
agent raised it. -/
def Obligations.FaultingStepWritesNothingElse : Prop :=
  ∀ (s t : State) (r : FaultRecord), step s = .next t → t.fault = some r →
    t = { spendTurn s with fault := some r }

/-- R41, R200: block reset, from any state, halted or not. -/
def Obligations.BlockResetValues : Prop :=
  ∀ s : State, ∃ t, takeTurn .blockReset s = .next t ∧
    t.cmd = 0 ∧ t.opa = 0 ∧ t.opb = 0 ∧ t.resp = 0 ∧ t.fe = .idle ∧ t.cnt = 0 ∧ t.comp = 0 ∧
    t.flags = ⟨false, false⟩ ∧ t.ien = ⟨false, false⟩ ∧ t.freeze = false ∧ t.ovf = 0 ∧
    t.cache = 0 ∧ t.tbase = 0 ∧ t.use = ⟨false, false⟩ ∧ t.blk = ⟨0, 0, 0, 0⟩ ∧ t.pmode = .em0 ∧
    t.irqMask = false ∧ t.extWake = false ∧ t.fault = none

/-! ### Who may write what (R22, R26 to R38, R43) -/

/-- R31: OVF is written only by the Handler, which adds 1 when it services IF.OF; else only block reset
changes it. -/
def Obligations.OnlyTheHandlerWritesOvf : Prop :=
  ∀ s t : State, step s = .next t → nextTurn s ≠ .blockReset → t.ovf ≠ s.ovf →
    nextTurn s = .handler ∧ s.flags.of = true ∧ t.ovf = s.ovf + 1

/-- R32, R27: but for block reset, CACHE is written only by the arm commit, and COMP only by the arm commit
and the teardown, which clears it. -/
def Obligations.OnlyTheArmWritesTheDeadline : Prop :=
  ∀ s t : State, step s = .next t → nextTurn s ≠ .blockReset →
    (t.cache ≠ s.cache → nextTurn s = .frontEnd ∧
      ∃ op, s.fe = .command op .ac ∧ t.cache = s.tmp.cache ∧ t.comp = s.tmp.comp) ∧
    (t.comp ≠ s.comp → nextTurn s = .frontEnd ∧
      ((∃ op, s.fe = .command op .ac) ∨ s.fe = .command .rtcFree .rf1 ∧ t.comp = 0))

/-- R33: but for block reset, TBASE is written only by the last micro-step of RTC_WRITE_WALL. -/
def Obligations.OnlyWriteWallWritesTbase : Prop :=
  ∀ s t : State, step s = .next t → nextTurn s ≠ .blockReset → t.tbase ≠ s.tbase →
    nextTurn s = .frontEnd ∧ s.fe = .command .rtcWriteWall .ww2 ∧ t.fe = .idle

/-- R21, R22: but for block reset, RESP changes only when a command with a result completes. -/
def Obligations.RespChangesOnlyOnCompletion : Prop :=
  ∀ s t : State, step s = .next t → nextTurn s ≠ .blockReset → t.resp ≠ s.resp →
    nextTurn s = .frontEnd ∧ t.fe = .idle ∧
      ∃ op k, s.fe = .command op k ∧ hasResult op = true

/-- R34, R36: but for block reset, USE is written only by RTC_INIT, RTC_FREE and TI1, and PMODE only by
the sleep-entry sequence: SLP1 on its way to SLP2, and SLP2 on its way back to EM0. -/
def Obligations.UseAndPowerModeWriters : Prop :=
  ∀ s t : State, step s = .next t → nextTurn s ≠ .blockReset →
    (t.use ≠ s.use → nextTurn s = .frontEnd ∧
      (s.fe = .command .rtcInit .ri1 ∨ s.fe = .command .rtcFree .rf1 ∨
        s.fe = .command .tickerInit .ti1)) ∧
    (t.pmode ≠ s.pmode → nextTurn s = .frontEnd ∧
      ∃ op, (op = .sleepEnter ∨ op = .tickerSleepUntil) ∧
        (s.fe = .command op .slp1 ∧ t.fe = .command op .slp2 ∨
          s.fe = .command op .slp2 ∧ t.pmode = .em0))

/-- R29, R140, R211: in a consistent state, and but for block reset, IEN.COMP goes to 1 only by an arm
commit, and back to 0 only when the Handler services a match or RTC_FREE tears the RTC down: no command
disarms a deadline and RTCX never arms one again by itself. -/
def Obligations.CompareInterruptIsOneShot : Prop :=
  ∀ s t : State, Consistent s → step s = .next t → nextTurn s ≠ .blockReset →
    (s.ien.comp = false → t.ien.comp = true →
      nextTurn s = .frontEnd ∧ ∃ op, s.fe = .command op .ac) ∧
    (s.ien.comp = true → t.ien.comp = false →
      nextTurn s = .handler ∧ s.flags.comp = true ∨
      nextTurn s = .frontEnd ∧ s.fe = .command .rtcFree .rf1 ∧ t.use = ⟨false, false⟩)

/-- R43, R170, R172: what the other agents leave alone. Tick writes only CNT, IF and FAULT; the Handler
only IF, IEN.COMP and OVF; Env only CMD, OPA, OPB, FE, IRQ_MASK, EXT_WAKE and FAULT. -/
def Obligations.AgentsWriteOnlyTheirElements : Prop :=
  ∀ s t : State,
    (takeTurn .tick s = .next t →
      t = { s with cnt := t.cnt, flags := t.flags, fault := t.fault }) ∧
    (takeTurn .handler s = .next t →
      t = { s with flags := t.flags, ien := { s.ien with comp := t.ien.comp }, ovf := t.ovf }) ∧
    (∀ e, takeTurn (.env e) s = .next t →
      t = { s with cmd := t.cmd, opa := t.opa, opb := t.opb, fe := t.fe, irqMask := t.irqMask,
                   extWake := t.extWake, fault := t.fault })

/-- R8, log entry 5: no step changes the parameters. -/
def Obligations.ParametersNeverChange : Prop :=
  ∀ s t : State, step s = .next t → t.params = s.params

/-! ### Invariants of every step (R42) -/

/-- R42: a step of any agent keeps a consistent state consistent. -/
def Obligations.EveryStepKeepsConsistency : Prop :=
  ∀ s t : State, Consistent s → step s = .next t → Consistent t

/-- R41, R42: the state after reset is consistent. -/
def Obligations.ResetIsConsistent : Prop := Consistent State.reset

/-- R42 item 4: an arm commit ties CACHE to COMP in their low 24 bits, and no step but a teardown unties
them. -/
def Obligations.DeadlineStaysTiedToCompare : Prop :=
  ∀ s t : State, Consistent s → step s = .next t →
    (nextTurn s = .frontEnd → ∀ op, s.fault = none → s.fe = .command op .ac →
      t.cache.setWidth 24 = t.comp) ∧
    (s.cache.setWidth 24 = s.comp → isTeardown (nextTurn s) s = false →
      t.cache.setWidth 24 = t.comp)

/-- R42 item 5, R58: along any run without a fault, a block reset or a teardown that discards a pending
overflow, the corrected count goes up by exactly the number of counter wraps, modulo 2^32. -/
def Obligations.CorrectedCountCountsWraps : Prop :=
  ∀ (ts : List Turn) (s t : State), Consistent s → runTurns ts s = .next t → t.fault = none →
    keepsOverflow ts s = true → ovfc t = ovfc s + BitVec.ofNat 32 (countWraps ts s)

/-! ### Whole runs (R58, R59, R114, R180, R186) -/

/-- R115, R135, R58: a time read returns `(corrected count << 24) | CNT` truncated to 32 bits whatever
the Handler and quiet Env turns (no port write) do between its micro-steps, as long as no tick falls in and
the front-end gets four turns, whichever form the snapshot has. Spare turns at Idle pass, the model's reading
(log entry 2). -/
def Obligations.TimeReadHidesTheHandler : Prop :=
  ∀ (i : Instr) (ts : List Turn) (s : State), s.fault = none → s.fe = .idle →
    (i = .rtcReadExt ∧ useEmpty s.use = false ∨ i = .tickerRead ∧ s.use.lpt = true) →
    ts.all isQuiet = true → 4 ≤ frontEndTurns ts →
    ∃ t, runTurns (.env (.issue (encode i)) :: ts) s = .next t ∧ t.fe = .idle ∧ t.fault = none ∧
      t.resp = BitVec.ofNat 32 ((ovfc s).toNat % 256 * 2 ^ 24 + s.cnt.toNat)

/-- R116, R117: RTC_WRITE_WALL v followed by RTC_READ_WALL with no tick in between returns v, whatever the
Handler and quiet Env turns do in between. Spare turns at Idle pass, the model's reading (log entry 2). -/
def Obligations.WallClockRoundTrip : Prop :=
  ∀ (v : Word) (ts us : List Turn) (s : State), s.fault = none → s.fe = .idle →
    useEmpty s.use = false → ts.all isQuiet = true → 4 ≤ frontEndTurns ts →
    us.all isQuiet = true → 4 ≤ frontEndTurns us →
    ∃ t, runTurns (.env (.writeOpa v) :: .env (.issue 0x00000015#32) :: ts ++
        .env (.issue 0x00000014#32) :: us) s = .next t ∧
      t.fe = .idle ∧ t.fault = none ∧ t.resp = v

/-- R59, R205: in the two-sample form a wrap between SN1 and SN2 makes RTC_READ_EXT return a time 2^24
ticks below the true one, modulo 2^32. -/
def Obligations.WrapBetweenSamplesReadsLow : Prop :=
  ∀ s : State, AtStep .rtcReadExt .sn1 s → useEmpty s.use = false →
    s.params.extReadAtomic = false → s.cnt = 0xFFFFFF#24 → s.flags.of = false →
    ∃ t, runTurns [.frontEnd, .tick, .frontEnd, .frontEnd] s = .next t ∧ t.fe = .idle ∧
      t.resp = ext32 (ovfc t) t.cnt - 0x01000000#32

/-- R134: TICKER_INIT from reset, with no tick during it, leaves the all-bits-set deadline armed. Where
five turns are enough the sixth passes, the model's reading (log entry 2). -/
def Obligations.TickerInitFromReset : Prop :=
  ∃ t, runTurns (.env (.issue 0x00000020#32) :: List.replicate 6 .frontEnd) State.reset = .next t ∧
    t.fe = .idle ∧ t.fault = none ∧ t.use = ⟨false, true⟩ ∧ t.blk = ⟨0, 1, 0, 0⟩ ∧
    t.ien = ⟨true, true⟩ ∧ t.flags = ⟨false, false⟩ ∧ t.comp = 0xFFFFFF#24 ∧
    t.cache = 0xFFFFFFFF#32 ∧ t.cnt = 0

/-- R131, R133, R136: TICKER_SET_INT as a whole, with no other agent between its micro-steps: the
deadline of OPB is armed from a sample the command takes itself, and OPA is ignored. A spare turn at Idle
passes, the model's reading (log entry 2). -/
def Obligations.TickerSetIntArmsItsDeadline : Prop :=
  ∀ (reference deadline : Word) (s : State), s.fault = none → s.fe = .idle → s.use.lpt = true →
    ∃ t, runTurns (.env (.writeOpa reference) :: .env (.writeOpb deadline) ::
        .env (.issue 0x00000022#32) :: List.replicate 5 .frontEnd) s = .next t ∧
      t.fe = .idle ∧ t.fault = none ∧ t.resp = s.resp ∧ t.ien = { s.ien with comp := true } ∧
      (t.comp, t.cache) = armCompute (ext32 (ovfc s) s.cnt) s.cnt deadline

/-- R139: TICKER_SLEEP_UNTIL as a whole, with no other agent between its micro-steps. If the time plus
MIN_SLEEP_TICKS lies between now and until, and no wake is pending once the deadline is armed, the block
ends up asleep in the selected mode with the deadline armed; if it does not lie there the command
completes at once with RESP = 0, and nothing is armed. Spare turns at Idle or in SLP2 pass, the model's reading
(log entry 2). -/
def Obligations.SleepUntilArmsThenSleeps : Prop :=
  ∀ (now until_ : Word) (s : State), s.fault = none → s.fe = .idle → s.use.lpt = true →
    let ts := (Turn.env (.writeOpa now) :: .env (.writeOpb until_) ::
      .env (.issue 0x00000025#32) :: List.replicate 9 .frontEnd)
    let time := ext32 (ovfc s) s.cnt
    (between now (time + s.params.minSleepTicks) until_ = false →
      ∃ t, runTurns ts s = .next t ∧ t.fe = .idle ∧ t.fault = none ∧ t.resp = 0 ∧
        t.comp = s.comp ∧ t.cache = s.cache ∧ t.ien = s.ien ∧ t.pmode = s.pmode) ∧
    (between now (time + s.params.minSleepTicks) until_ = true →
      s.flags = ⟨false, false⟩ → s.extWake = false → s.params.matchOnWriteEqual = false →
      depthCode (selectMode s.params.deepest s.blk) ≤ 2 →
      ∃ t, runTurns ts s = .next t ∧ t.fe = .command .tickerSleepUntil .slp2 ∧ t.fault = none ∧
        t.resp = s.resp ∧ t.pmode = modeOfDepth (selectMode s.params.deepest s.blk) ∧
        t.ien = { s.ien with comp := true } ∧ (t.comp, t.cache) = armCompute time s.cnt until_)

/-- R180: with the RTC running, a sleep ends at the latest on the next wrap. From a consistent state held
in SLP2 with no wake pending, the ticks up to the wrap raise no fault and set IF.OF, and the front-end's
next turn wakes the block to EM0. -/
def Obligations.SleepEndsAtTheLatestOnTheWrap : Prop :=
  ∀ (op : Op) (s : State), Consistent s → AtStep op .slp2 s → useEmpty s.use = false →
    wakeCond s = false →
    ∃ t u, runTurns (List.replicate (2 ^ 24 - s.cnt.toNat) .tick) s = .next t ∧ t.fault = none ∧
      t.cnt = 0 ∧ t.flags.of = true ∧ t.pmode = s.pmode ∧
      takeTurn .frontEnd t = .next u ∧ u.pmode = .em0 ∧ u.fe ≠ .command op .slp2

/-- R166: with COMP constant, IF.COMP is set by the tick on which the counter becomes COMP and by none
before it, 2^24 ticks after a present match and else as many ticks as COMP lies ahead modulo 2^24. -/
def Obligations.MatchComesWhenTheCounterArrives : Prop :=
  ∀ s : State, s.fault = none → useEmpty s.use = false → s.flags = ⟨false, false⟩ →
    let ahead := (s.comp.toNat + 2 ^ 24 - s.cnt.toNat - 1) % 2 ^ 24
    ∃ t u, runTurns (List.replicate ahead .tick) s = .next t ∧ t.flags.comp = false ∧
      runTurns (List.replicate (ahead + 1) .tick) s = .next u ∧ u.flags.comp = true ∧
      u.cnt = s.comp ∧ u.fault = none

/-- R186: every command but SLEEP_ENTER and TICKER_SLEEP_UNTIL completes in at most six of the
front-end's own turns, the decode step among them, whatever quiet turns fall in between, if its selector
is legal, the use it needs is there and none of the four block counts is at its maximum. Spare turns at Idle
pass, the model's reading (log entry 2). -/
def Obligations.BoundedCommandsComplete : Prop :=
  ∀ (i : Instr) (ts : List Turn) (s : State), s.fault = none → s.fe = .idle →
    i.wellFormed = true → isBounded (opOf i) = true → ready (opOf i) s.use = true →
    (∀ d, blkGet s.blk d ≠ 0xFFFFFFFF#32) →
    ts.all isQuiet = true → 6 ≤ frontEndTurns ts →
    ∃ t, runTurns (.env (.issue (encode i)) :: ts) s = .next t ∧ t.fe = .idle ∧ t.fault = none
end

