-- ==== Sys2Proof/Laws/State.lean ====
section
/-! SUPPORT. One lemma per field and named update of State, so that no proof unfolds a record update. -/

namespace Sys2Proof.Machine

section
variable (code : FaultCode) (info : Word) (s : State)

@[simp] theorem raise_cmd : (raise code info s).cmd = s.cmd := rfl
@[simp] theorem raise_opa : (raise code info s).opa = s.opa := rfl
@[simp] theorem raise_opb : (raise code info s).opb = s.opb := rfl
@[simp] theorem raise_resp : (raise code info s).resp = s.resp := rfl
@[simp] theorem raise_fe : (raise code info s).fe = s.fe := rfl
@[simp] theorem raise_tmp : (raise code info s).tmp = s.tmp := rfl
@[simp] theorem raise_cnt : (raise code info s).cnt = s.cnt := rfl
@[simp] theorem raise_comp : (raise code info s).comp = s.comp := rfl
@[simp] theorem raise_flags : (raise code info s).flags = s.flags := rfl
@[simp] theorem raise_ien : (raise code info s).ien = s.ien := rfl
@[simp] theorem raise_freeze : (raise code info s).freeze = s.freeze := rfl
@[simp] theorem raise_compShadow : (raise code info s).compShadow = s.compShadow := rfl
@[simp] theorem raise_ovf : (raise code info s).ovf = s.ovf := rfl
@[simp] theorem raise_cache : (raise code info s).cache = s.cache := rfl
@[simp] theorem raise_tbase : (raise code info s).tbase = s.tbase := rfl
@[simp] theorem raise_use : (raise code info s).use = s.use := rfl
@[simp] theorem raise_blk : (raise code info s).blk = s.blk := rfl
@[simp] theorem raise_pmode : (raise code info s).pmode = s.pmode := rfl
@[simp] theorem raise_irqMask : (raise code info s).irqMask = s.irqMask := rfl
@[simp] theorem raise_extWake : (raise code info s).extWake = s.extWake := rfl
@[simp] theorem raise_fault : (raise code info s).fault = some ⟨code, info⟩ := rfl
@[simp] theorem raise_params : (raise code info s).params = s.params := rfl
@[simp] theorem raise_agenda : (raise code info s).agenda = s.agenda := rfl
@[simp] theorem raise_turnNo : (raise code info s).turnNo = s.turnNo := rfl

end

section
variable (v : Word) (s : State)

@[simp] theorem respond_cmd : (respond v s).cmd = s.cmd := rfl
@[simp] theorem respond_opa : (respond v s).opa = s.opa := rfl
@[simp] theorem respond_opb : (respond v s).opb = s.opb := rfl
@[simp] theorem respond_resp : (respond v s).resp = v := rfl
@[simp] theorem respond_fe : (respond v s).fe = .idle := rfl
@[simp] theorem respond_tmp : (respond v s).tmp = s.tmp := rfl
@[simp] theorem respond_cnt : (respond v s).cnt = s.cnt := rfl
@[simp] theorem respond_comp : (respond v s).comp = s.comp := rfl
@[simp] theorem respond_flags : (respond v s).flags = s.flags := rfl
@[simp] theorem respond_ien : (respond v s).ien = s.ien := rfl
@[simp] theorem respond_freeze : (respond v s).freeze = s.freeze := rfl
@[simp] theorem respond_compShadow : (respond v s).compShadow = s.compShadow := rfl
@[simp] theorem respond_ovf : (respond v s).ovf = s.ovf := rfl
@[simp] theorem respond_cache : (respond v s).cache = s.cache := rfl
@[simp] theorem respond_tbase : (respond v s).tbase = s.tbase := rfl
@[simp] theorem respond_use : (respond v s).use = s.use := rfl
@[simp] theorem respond_blk : (respond v s).blk = s.blk := rfl
@[simp] theorem respond_pmode : (respond v s).pmode = s.pmode := rfl
@[simp] theorem respond_irqMask : (respond v s).irqMask = s.irqMask := rfl
@[simp] theorem respond_extWake : (respond v s).extWake = s.extWake := rfl
@[simp] theorem respond_fault : (respond v s).fault = s.fault := rfl
@[simp] theorem respond_params : (respond v s).params = s.params := rfl
@[simp] theorem respond_agenda : (respond v s).agenda = s.agenda := rfl
@[simp] theorem respond_turnNo : (respond v s).turnNo = s.turnNo := rfl

end

section
variable (i : Instr) (s : State)

@[simp] theorem latch_cmd : (latch i s).cmd = s.cmd := rfl
@[simp] theorem latch_opa : (latch i s).opa = s.opa := rfl
@[simp] theorem latch_opb : (latch i s).opb = s.opb := rfl
@[simp] theorem latch_resp : (latch i s).resp = s.resp := rfl
@[simp] theorem latch_fe : (latch i s).fe = .command (opOf i) (firstMicro (opOf i)) := rfl
@[simp] theorem latch_tmp :
    (latch i s).tmp =
      { s.tmp with sel := i.selector, a := s.opa, b := s.opb } := rfl
@[simp] theorem latch_cnt : (latch i s).cnt = s.cnt := rfl
@[simp] theorem latch_comp : (latch i s).comp = s.comp := rfl
@[simp] theorem latch_flags : (latch i s).flags = s.flags := rfl
@[simp] theorem latch_ien : (latch i s).ien = s.ien := rfl
@[simp] theorem latch_freeze : (latch i s).freeze = s.freeze := rfl
@[simp] theorem latch_compShadow : (latch i s).compShadow = s.compShadow := rfl
@[simp] theorem latch_ovf : (latch i s).ovf = s.ovf := rfl
@[simp] theorem latch_cache : (latch i s).cache = s.cache := rfl
@[simp] theorem latch_tbase : (latch i s).tbase = s.tbase := rfl
@[simp] theorem latch_use : (latch i s).use = s.use := rfl
@[simp] theorem latch_blk : (latch i s).blk = s.blk := rfl
@[simp] theorem latch_pmode : (latch i s).pmode = s.pmode := rfl
@[simp] theorem latch_irqMask : (latch i s).irqMask = s.irqMask := rfl
@[simp] theorem latch_extWake : (latch i s).extWake = s.extWake := rfl
@[simp] theorem latch_fault : (latch i s).fault = s.fault := rfl
@[simp] theorem latch_params : (latch i s).params = s.params := rfl
@[simp] theorem latch_agenda : (latch i s).agenda = s.agenda := rfl
@[simp] theorem latch_turnNo : (latch i s).turnNo = s.turnNo := rfl

end

section
variable (o : Word) (next : FrontEndPtr) (s : State)

@[simp] theorem sampleTime_cmd : (sampleTime o next s).cmd = s.cmd := rfl
@[simp] theorem sampleTime_opa : (sampleTime o next s).opa = s.opa := rfl
@[simp] theorem sampleTime_opb : (sampleTime o next s).opb = s.opb := rfl
@[simp] theorem sampleTime_resp : (sampleTime o next s).resp = s.resp := rfl
@[simp] theorem sampleTime_fe : (sampleTime o next s).fe = next := rfl
@[simp] theorem sampleTime_tmp :
    (sampleTime o next s).tmp =
      { s.tmp with now := ext32 o s.cnt, cnt := s.cnt, fullv := full o s.cnt } := rfl
@[simp] theorem sampleTime_cnt : (sampleTime o next s).cnt = s.cnt := rfl
@[simp] theorem sampleTime_comp : (sampleTime o next s).comp = s.comp := rfl
@[simp] theorem sampleTime_flags : (sampleTime o next s).flags = s.flags := rfl
@[simp] theorem sampleTime_ien : (sampleTime o next s).ien = s.ien := rfl
@[simp] theorem sampleTime_freeze : (sampleTime o next s).freeze = s.freeze := rfl
@[simp] theorem sampleTime_compShadow : (sampleTime o next s).compShadow = s.compShadow := rfl
@[simp] theorem sampleTime_ovf : (sampleTime o next s).ovf = s.ovf := rfl
@[simp] theorem sampleTime_cache : (sampleTime o next s).cache = s.cache := rfl
@[simp] theorem sampleTime_tbase : (sampleTime o next s).tbase = s.tbase := rfl
@[simp] theorem sampleTime_use : (sampleTime o next s).use = s.use := rfl
@[simp] theorem sampleTime_blk : (sampleTime o next s).blk = s.blk := rfl
@[simp] theorem sampleTime_pmode : (sampleTime o next s).pmode = s.pmode := rfl
@[simp] theorem sampleTime_irqMask : (sampleTime o next s).irqMask = s.irqMask := rfl
@[simp] theorem sampleTime_extWake : (sampleTime o next s).extWake = s.extWake := rfl
@[simp] theorem sampleTime_fault : (sampleTime o next s).fault = s.fault := rfl
@[simp] theorem sampleTime_params : (sampleTime o next s).params = s.params := rfl
@[simp] theorem sampleTime_agenda : (sampleTime o next s).agenda = s.agenda := rfl
@[simp] theorem sampleTime_turnNo : (sampleTime o next s).turnNo = s.turnNo := rfl

end

section
variable (d : Word) (next : FrontEndPtr) (s : State)

@[simp] theorem armPrepare_cmd : (armPrepare d next s).cmd = s.cmd := rfl
@[simp] theorem armPrepare_opa : (armPrepare d next s).opa = s.opa := rfl
@[simp] theorem armPrepare_opb : (armPrepare d next s).opb = s.opb := rfl
@[simp] theorem armPrepare_resp : (armPrepare d next s).resp = s.resp := rfl
@[simp] theorem armPrepare_fe : (armPrepare d next s).fe = next := rfl
@[simp] theorem armPrepare_tmp :
    (armPrepare d next s).tmp =
      { s.tmp with comp := (armCompute s.tmp.now s.tmp.cnt d).1, cache := (armCompute s.tmp.now s.tmp.cnt d).2 } := rfl
@[simp] theorem armPrepare_cnt : (armPrepare d next s).cnt = s.cnt := rfl
@[simp] theorem armPrepare_comp : (armPrepare d next s).comp = s.comp := rfl
@[simp] theorem armPrepare_flags : (armPrepare d next s).flags = s.flags := rfl
@[simp] theorem armPrepare_ien : (armPrepare d next s).ien = s.ien := rfl
@[simp] theorem armPrepare_freeze : (armPrepare d next s).freeze = s.freeze := rfl
@[simp] theorem armPrepare_compShadow : (armPrepare d next s).compShadow = s.compShadow := rfl
@[simp] theorem armPrepare_ovf : (armPrepare d next s).ovf = s.ovf := rfl
@[simp] theorem armPrepare_cache : (armPrepare d next s).cache = s.cache := rfl
@[simp] theorem armPrepare_tbase : (armPrepare d next s).tbase = s.tbase := rfl
@[simp] theorem armPrepare_use : (armPrepare d next s).use = s.use := rfl
@[simp] theorem armPrepare_blk : (armPrepare d next s).blk = s.blk := rfl
@[simp] theorem armPrepare_pmode : (armPrepare d next s).pmode = s.pmode := rfl
@[simp] theorem armPrepare_irqMask : (armPrepare d next s).irqMask = s.irqMask := rfl
@[simp] theorem armPrepare_extWake : (armPrepare d next s).extWake = s.extWake := rfl
@[simp] theorem armPrepare_fault : (armPrepare d next s).fault = s.fault := rfl
@[simp] theorem armPrepare_params : (armPrepare d next s).params = s.params := rfl
@[simp] theorem armPrepare_agenda : (armPrepare d next s).agenda = s.agenda := rfl
@[simp] theorem armPrepare_turnNo : (armPrepare d next s).turnNo = s.turnNo := rfl

end

section
variable (next : FrontEndPtr) (s : State)

@[simp] theorem armCommit_cmd : (armCommit next s).cmd = s.cmd := rfl
@[simp] theorem armCommit_opa : (armCommit next s).opa = s.opa := rfl
@[simp] theorem armCommit_opb : (armCommit next s).opb = s.opb := rfl
@[simp] theorem armCommit_resp : (armCommit next s).resp = s.resp := rfl
@[simp] theorem armCommit_fe : (armCommit next s).fe = next := rfl
@[simp] theorem armCommit_tmp : (armCommit next s).tmp = s.tmp := rfl
@[simp] theorem armCommit_cnt : (armCommit next s).cnt = s.cnt := rfl
@[simp] theorem armCommit_comp : (armCommit next s).comp = s.tmp.comp := rfl
@[simp] theorem armCommit_flags :
    (armCommit next s).flags =
      { s.flags with comp := commitFlag s.params.armClearsCompareFlag s.params.matchOnWriteEqual s.tmp.comp s.cnt s.flags.comp } := rfl
@[simp] theorem armCommit_ien : (armCommit next s).ien = { s.ien with comp := true } := rfl
@[simp] theorem armCommit_freeze : (armCommit next s).freeze = false := rfl
@[simp] theorem armCommit_compShadow : (armCommit next s).compShadow = s.tmp.comp := rfl
@[simp] theorem armCommit_ovf : (armCommit next s).ovf = s.ovf := rfl
@[simp] theorem armCommit_cache : (armCommit next s).cache = s.tmp.cache := rfl
@[simp] theorem armCommit_tbase : (armCommit next s).tbase = s.tbase := rfl
@[simp] theorem armCommit_use : (armCommit next s).use = s.use := rfl
@[simp] theorem armCommit_blk : (armCommit next s).blk = s.blk := rfl
@[simp] theorem armCommit_pmode : (armCommit next s).pmode = s.pmode := rfl
@[simp] theorem armCommit_irqMask : (armCommit next s).irqMask = s.irqMask := rfl
@[simp] theorem armCommit_extWake : (armCommit next s).extWake = s.extWake := rfl
@[simp] theorem armCommit_fault : (armCommit next s).fault = s.fault := rfl
@[simp] theorem armCommit_params : (armCommit next s).params = s.params := rfl
@[simp] theorem armCommit_agenda : (armCommit next s).agenda = s.agenda := rfl
@[simp] theorem armCommit_turnNo : (armCommit next s).turnNo = s.turnNo := rfl

end

section
variable (s : State)

@[simp] theorem spendTurn_cmd : (spendTurn s).cmd = s.cmd := by unfold spendTurn; split <;> rfl
@[simp] theorem spendTurn_opa : (spendTurn s).opa = s.opa := by unfold spendTurn; split <;> rfl
@[simp] theorem spendTurn_opb : (spendTurn s).opb = s.opb := by unfold spendTurn; split <;> rfl
@[simp] theorem spendTurn_resp : (spendTurn s).resp = s.resp := by unfold spendTurn; split <;> rfl
@[simp] theorem spendTurn_fe : (spendTurn s).fe = s.fe := by unfold spendTurn; split <;> rfl
@[simp] theorem spendTurn_tmp : (spendTurn s).tmp = s.tmp := by unfold spendTurn; split <;> rfl
@[simp] theorem spendTurn_cnt : (spendTurn s).cnt = s.cnt := by unfold spendTurn; split <;> rfl
@[simp] theorem spendTurn_comp : (spendTurn s).comp = s.comp := by unfold spendTurn; split <;> rfl
@[simp] theorem spendTurn_flags : (spendTurn s).flags = s.flags := by unfold spendTurn; split <;> rfl
@[simp] theorem spendTurn_ien : (spendTurn s).ien = s.ien := by unfold spendTurn; split <;> rfl
@[simp] theorem spendTurn_freeze : (spendTurn s).freeze = s.freeze := by unfold spendTurn; split <;> rfl
@[simp] theorem spendTurn_compShadow : (spendTurn s).compShadow = s.compShadow := by unfold spendTurn; split <;> rfl
@[simp] theorem spendTurn_ovf : (spendTurn s).ovf = s.ovf := by unfold spendTurn; split <;> rfl
@[simp] theorem spendTurn_cache : (spendTurn s).cache = s.cache := by unfold spendTurn; split <;> rfl
@[simp] theorem spendTurn_tbase : (spendTurn s).tbase = s.tbase := by unfold spendTurn; split <;> rfl
@[simp] theorem spendTurn_use : (spendTurn s).use = s.use := by unfold spendTurn; split <;> rfl
@[simp] theorem spendTurn_blk : (spendTurn s).blk = s.blk := by unfold spendTurn; split <;> rfl
@[simp] theorem spendTurn_pmode : (spendTurn s).pmode = s.pmode := by unfold spendTurn; split <;> rfl
@[simp] theorem spendTurn_irqMask : (spendTurn s).irqMask = s.irqMask := by unfold spendTurn; split <;> rfl
@[simp] theorem spendTurn_extWake : (spendTurn s).extWake = s.extWake := by unfold spendTurn; split <;> rfl
@[simp] theorem spendTurn_fault : (spendTurn s).fault = s.fault := by unfold spendTurn; split <;> rfl
@[simp] theorem spendTurn_params : (spendTurn s).params = s.params := by unfold spendTurn; split <;> rfl
@[simp] theorem blockReset_cmd : (blockReset s).cmd = State.reset.cmd := rfl
@[simp] theorem blockReset_opa : (blockReset s).opa = State.reset.opa := rfl
@[simp] theorem blockReset_opb : (blockReset s).opb = State.reset.opb := rfl
@[simp] theorem blockReset_resp : (blockReset s).resp = State.reset.resp := rfl
@[simp] theorem blockReset_fe : (blockReset s).fe = State.reset.fe := rfl
@[simp] theorem blockReset_tmp : (blockReset s).tmp = State.reset.tmp := rfl
@[simp] theorem blockReset_cnt : (blockReset s).cnt = State.reset.cnt := rfl
@[simp] theorem blockReset_comp : (blockReset s).comp = State.reset.comp := rfl
@[simp] theorem blockReset_flags : (blockReset s).flags = State.reset.flags := rfl
@[simp] theorem blockReset_ien : (blockReset s).ien = State.reset.ien := rfl
@[simp] theorem blockReset_freeze : (blockReset s).freeze = State.reset.freeze := rfl
@[simp] theorem blockReset_compShadow : (blockReset s).compShadow = State.reset.compShadow := rfl
@[simp] theorem blockReset_ovf : (blockReset s).ovf = State.reset.ovf := rfl
@[simp] theorem blockReset_cache : (blockReset s).cache = State.reset.cache := rfl
@[simp] theorem blockReset_tbase : (blockReset s).tbase = State.reset.tbase := rfl
@[simp] theorem blockReset_use : (blockReset s).use = State.reset.use := rfl
@[simp] theorem blockReset_blk : (blockReset s).blk = State.reset.blk := rfl
@[simp] theorem blockReset_pmode : (blockReset s).pmode = State.reset.pmode := rfl
@[simp] theorem blockReset_irqMask : (blockReset s).irqMask = State.reset.irqMask := rfl
@[simp] theorem blockReset_extWake : (blockReset s).extWake = State.reset.extWake := rfl
@[simp] theorem blockReset_fault : (blockReset s).fault = State.reset.fault := rfl
@[simp] theorem blockReset_params : (blockReset s).params = s.params := rfl
@[simp] theorem blockReset_agenda : (blockReset s).agenda = s.agenda := rfl
@[simp] theorem blockReset_turnNo : (blockReset s).turnNo = s.turnNo := rfl

end

end Sys2Proof.Machine
end

