-- ==== Sys2Proof/Laws/Ops.lean ====
section
/-! SUPPORT. What each shared operation can do, said once: if it answers `next t`, or equals `t`, then one
of the listed cases holds. -/

namespace Sys2Proof.Machine

open Host (Outcome)

theorem unlessHalted_eq_next {s t : State} {k : Outcome State Fault Refusal} :
    unlessHalted s k = .next t ↔ s.fault = none ∧ k = .next t := by
  unfold unlessHalted
  cases s.fault <;> simp

@[simp] theorem unlessHalted_running {s : State} {k : Outcome State Fault Refusal}
    (h : s.fault = none) : unlessHalted s k = k := by simp [unlessHalted, h]

@[simp] theorem unlessHalted_halted {s : State} {k : Outcome State Fault Refusal} {r : FaultRecord}
    (h : s.fault = some r) : unlessHalted s k = .fault (.halted r) := by simp [unlessHalted, h]

theorem commandStep_atStep {i : Instr} {s : State} {body : Micro → State} {op : Op} {k : Micro}
    (h : s.fault = none) (hfe : s.fe = .command op k) (hop : op = opOf i) :
    commandStep i s body = .next (body k) := by
  simp [commandStep, h, hfe, hop]

theorem commandStep_decode {i : Instr} {s : State} {body : Micro → State}
    (h : s.fault = none) (hfe : s.fe = .decode) : commandStep i s body = .next (latch i s) := by
  simp [commandStep, h, hfe]

theorem commandStep_eq_next {i : Instr} {s t : State} {body : Micro → State} :
    commandStep i s body = .next t ↔ s.fault = none ∧
      (s.fe = .idle ∧ t = s ∨ s.fe = .decode ∧ t = latch i s ∨
        (∃ op k, s.fe = .command op k ∧ op ≠ opOf i ∧ t = s) ∨
        ∃ k, s.fe = .command (opOf i) k ∧ t = body k) := by
  unfold commandStep
  rw [unlessHalted_eq_next]
  refine and_congr_right fun _ => ?_
  rcases s.fe with _ | _ | ⟨op, k⟩
  · simp [eq_comm]
  · simp [eq_comm]
  · by_cases h : op = opOf i
    · subst h; simp [eq_comm]
    · simp [h, eq_comm]

@[simp] theorem opOf_instrOf (op : Op) (sel : Selector) : opOf (instrOf op sel) = op := by
  cases op <;> rfl

@[simp] theorem needRunning_running {s k : State} (h : useEmpty s.use = false) :
    needRunning s k = k := by simp [needRunning, h]

@[simp] theorem needTicker_running {s k : State} (h : s.use.lpt = true) : needTicker s k = k := by
  simp [needTicker, h]

theorem needRunning_cases (s k : State) :
    useEmpty s.use = false ∧ needRunning s k = k ∨
      useEmpty s.use = true ∧ needRunning s k = raise .notRunning s.cmd s := by
  unfold needRunning; cases useEmpty s.use <;> simp

theorem needTicker_cases (s k : State) :
    s.use.lpt = true ∧ needTicker s k = k ∨
      s.use.lpt = false ∧ needTicker s k = raise .notRunning s.cmd s := by
  unfold needTicker; cases s.use.lpt <;> simp

theorem snapFirst_cases (second next : FrontEndPtr) (s : State) :
    s.params.extReadAtomic = true ∧ snapFirst second next s = sampleTime (ovfc s) next s ∨
      s.params.extReadAtomic = false ∧
        snapFirst second next s = { s with tmp := { s.tmp with osamp := ovfc s }, fe := second } := by
  unfold snapFirst; cases s.params.extReadAtomic <;> simp

theorem rtcStart_cases (r : Reason) (next : FrontEndPtr) (s : State) :
    useEmpty s.use = false ∧ rtcStart r next s = { s with use := useInsert r s.use, fe := next } ∨
      useEmpty s.use = true ∧ s.blk.em2 = blkMax ∧
        rtcStart r next s = raise .blockCountOverflow (depthInfo .em2) s ∨
      useEmpty s.use = true ∧ s.blk.em2 ≠ blkMax ∧
        rtcStart r next s =
          { s with
            cnt := 0, flags := noFlags, ien := ⟨true, false⟩
            blk := blkSet s.blk .em2 (s.blk.em2 + 1), use := useInsert r s.use, fe := next } := by
  unfold rtcStart
  cases h : useEmpty s.use
  · simp
  · by_cases hb : s.blk.em2 = blkMax <;> simp [hb]

theorem rtcStop_cases (r : Reason) (s : State) :
    lastReason r s.use = false ∧ rtcStop r s = { s with use := useErase r s.use, fe := .idle } ∨
      lastReason r s.use = true ∧
        rtcStop r s =
          { s with
            use := useErase r s.use, ien := noFlags, flags := noFlags, cnt := 0, comp := 0
            blk := blkRelease s.blk .em2, fe := .idle } := by
  unfold rtcStop; cases lastReason r s.use <;> simp

theorem sleepEntry_cases (asleep next : FrontEndPtr) (s : State) :
    wakeCond s = true ∧ sleepEntry asleep next s = { s with extWake := false, fe := next } ∨
      wakeCond s = false ∧ useEmpty s.use = false ∧ losesRetention (selected s) = true ∧
        sleepEntry asleep next s = raise .retentionLost (depthInfo (selected s)) s ∨
      wakeCond s = false ∧ (useEmpty s.use = true ∨ losesRetention (selected s) = false) ∧
        sleepEntry asleep next s =
          { s with
            tmp := { s.tmp with mode := selected s }, pmode := modeOfDepth (selected s)
            fe := asleep } := by
  unfold sleepEntry
  cases wakeCond s <;> cases useEmpty s.use <;> cases losesRetention (selected s) <;> simp

theorem sleepExit_cases (next : FrontEndPtr) (s : State) :
    wakeCond s = true ∧ sleepExit next s = { s with pmode := .em0, extWake := false, fe := next } ∨
      wakeCond s = false ∧ sleepExit next s = s := by
  unfold sleepExit; cases wakeCond s <;> simp

theorem tickStep_cases (s : State) :
    useEmpty s.use = true ∧ tickStep s = s ∨
      useEmpty s.use = false ∧ losesOverflow s = true ∧
        tickStep s = raise .overflowLost s.ovf s ∨
      useEmpty s.use = false ∧ losesOverflow s = false ∧
        tickStep s =
          { s with flags := tickFlags (nextCount s) s.comp s.flags, cnt := nextCount s } := by
  unfold tickStep; cases useEmpty s.use <;> cases losesOverflow s <;> simp

theorem handlerStep_cases (s : State) :
    handlerEnabled s = false ∧ handlerStep s = s ∨
      handlerEnabled s = true ∧
        handlerStep s =
          { s with
            flags := noFlags, ovf := serviceOvf s.flags s.ovf
            ien := serviceEnables s.flags s.ien } := by
  unfold handlerStep; cases handlerEnabled s <;> simp

theorem portWrite_cases (n : Word) (s written : State) :
    s.fe = .idle ∧ portWrite n s written = written ∨
      s.fe ≠ .idle ∧ portWrite n s written = raise .portBusy n s := by
  unfold portWrite; by_cases h : s.fe = .idle <;> simp [h]

/-- The corrected count as the spec's examples give it: one more while a wrap is pending. -/
theorem ovfc_eq (s : State) : ovfc s = if s.flags.of then s.ovf + 1 else s.ovf := by
  unfold ovfc; cases s.flags.of <;> simp

/-- The Handler moves a pending wrap into OVF, so the corrected count stays (R58). -/
theorem ovfc_handlerStep (s : State) : ovfc (handlerStep s) = ovfc s := by
  rcases handlerStep_cases s with ⟨_, h⟩ | ⟨_, h⟩ <;>
    simp [h, ovfc_eq, noFlags, serviceOvf]

theorem blkGet_blkSet (b : BlockCounts) (d e : Depth) (v : Word) :
    blkGet (blkSet b d v) e = if e = d then v else blkGet b e := by
  cases d <;> cases e <;> simp [blkGet, blkSet]

@[simp] theorem useInsert_nonempty (r : Reason) (u : UseSet) : useEmpty (useInsert r u) = false := by
  cases r <;> simp [useEmpty, useInsert]

theorem useEmpty_iff (u : UseSet) : useEmpty u = true ↔ u = ⟨false, false⟩ := by
  rcases u with ⟨_ | _, _ | _⟩ <;> simp [useEmpty]

end Sys2Proof.Machine
end

