-- ==== Sys2Proof/Laws/Exec.lean ====
section
/-! SUPPORT. What a step of the machine can do, said once: `CommandMove` for a micro-step of a command,
`StepMove` for a step of any agent. Claims about every step are derived from these. -/

namespace Sys2Proof.Machine

/-- What the micro-step `k` of command `op` can do to `s`, with what its rule makes sure of. -/
inductive CommandMove (op : Op) (k : Micro) (s : State) : State → Prop where
  /-- Nothing: SLP2 without a wake, or a pair (op, k) that no rule names. -/
  | pass (h : k = .slp2 ∧ wakeCond s = false ∨ k ∉ microSteps op) : CommandMove op k s s
  /-- Only a first micro-step and a sleep entry check anything (R110, R105). -/
  | raised (c : FaultCode) (info : Word) (hk : k = firstMicro op ∨ k = .slp1) :
      CommandMove op k s (raise c info s)
  | blocked (d : Depth) (v : Word) (hop : op = .sleepBlock) :
      CommandMove op k s { s with blk := blkSet s.blk d v, fe := .idle }
  | unblocked (d : Depth) (hop : op = .sleepUnblock) :
      CommandMove op k s { s with blk := blkRelease s.blk d, fe := .idle }
  | entryPassed (next : FrontEndPtr) (hk : k = .slp1) (hw : wakeCond s = true)
      (hop : op = .sleepEnter ∧ next = .idle ∨
        op = .tickerSleepUntil ∧ next = .command .tickerSleepUntil .su5) :
      CommandMove op k s { s with extWake := false, fe := next }
  | asleep (hk : k = .slp1) (hw : wakeCond s = false) (hop : op = .sleepEnter ∨ op = .tickerSleepUntil)
      (hm : useEmpty s.use = true ∨ losesRetention (selected s) = false) :
      CommandMove op k s
        { s with
          tmp := { s.tmp with mode := selected s }, pmode := modeOfDepth (selected s)
          fe := .command op .slp2 }
  | woken (next : FrontEndPtr) (hk : k = .slp2) (hw : wakeCond s = true)
      (hop : op = .sleepEnter ∧ next = .idle ∨
        op = .tickerSleepUntil ∧ next = .command .tickerSleepUntil .su5) :
      CommandMove op k s { s with pmode := .em0, extWake := false, fe := next }
  | joined (r : Reason) (next : FrontEndPtr)
      (hop : op = .rtcInit ∧ k = .ri1 ∧ next = .idle ∨
        op = .tickerInit ∧ k = .ti1 ∧ r = .lpt ∧ next = .command .tickerInit .armSn1)
      (hu : useEmpty s.use = false) :
      CommandMove op k s { s with use := useInsert r s.use, fe := next }
  | started (r : Reason) (next : FrontEndPtr)
      (hop : op = .rtcInit ∧ k = .ri1 ∧ next = .idle ∨
        op = .tickerInit ∧ k = .ti1 ∧ r = .lpt ∧ next = .command .tickerInit .armSn1)
      (hu : useEmpty s.use = true) :
      CommandMove op k s
        { s with
          cnt := 0, flags := noFlags, ien := ⟨true, false⟩
          blk := blkSet s.blk .em2 (s.blk.em2 + 1), use := useInsert r s.use, fe := next }
  | left (r : Reason) (hop : op = .rtcFree) (hk : k = .rf1) (hu : lastReason r s.use = false) :
      CommandMove op k s { s with use := useErase r s.use, fe := .idle }
  | tornDown (r : Reason) (hop : op = .rtcFree) (hk : k = .rf1)
      (hr : reasonOfSel s.tmp.sel = some r) (hu : lastReason r s.use = true) :
      CommandMove op k s
        { s with
          use := useErase r s.use, ien := noFlags, flags := noFlags, cnt := 0, comp := 0
          blk := blkRelease s.blk .em2, fe := .idle }
  | responded (v : Word) (hop : hasResult op = true) (hk : k ≠ .slp2 ∧ k ≠ .ac) : CommandMove op k s (respond v s)
  | refusedSleep (hop : op = .tickerSleepUntil) (hk : k = .su2) :
      CommandMove op k s (respond 0 { s with tmp := { s.tmp with wake := minimumWake s } })
  | acceptedSleep (hop : op = .tickerSleepUntil) (hk : k = .su2) :
      CommandMove op k s
        { s with
          tmp := { s.tmp with wake := minimumWake s }, fe := .command .tickerSleepUntil .armSn1 }
  | counted (second : Micro) (hm : second ∈ microSteps op) (hs : second = .sn2 ∨ second = .armSn2)
      (ha : s.params.extReadAtomic = false) (hk : k ≠ .slp2 ∧ k ≠ .ac)
      (hr : k ≠ firstMicro op ∨ relied op s.use = true) :
      CommandMove op k s { s with tmp := { s.tmp with osamp := ovfc s }, fe := .command op second }
  | sampled (o : Word) (next : Micro) (hm : next ∈ microSteps op)
      (hn : next = .rx2 ∨ next = .rw2 ∨ next = .ww2 ∨ next = .tr2 ∨ next = .su2 ∨ next = .ap)
      (hk : k ≠ .slp2 ∧ k ≠ .ac) (hr : k ≠ firstMicro op ∨ relied op s.use = true) :
      CommandMove op k s (sampleTime o (.command op next) s)
  | prepared (d : Word) (hk : k = .ap) (hm : .ac ∈ microSteps op) :
      CommandMove op k s (armPrepare d (.command op .ac) s)
  | committed (next : FrontEndPtr) (hk : k = .ac) (ha : k ≠ firstMicro op)
      (hn : next = .idle ∨ op = .tickerSleepUntil ∧ next = .command .tickerSleepUntil .slp1) :
      CommandMove op k s (armCommit next s)
  | wrote (hop : op = .rtcWriteWall) (hk : k = .ww2) :
      CommandMove op k s { s with tbase := s.tmp.a - sampledSecs s, fe := .idle }

theorem snapFirst_move {op : Op} {k second next : Micro} {s : State}
    (hsecond : second ∈ microSteps op) (hs : second = .sn2 ∨ second = .armSn2)
    (hnext : next ∈ microSteps op)
    (hn : next = .rx2 ∨ next = .rw2 ∨ next = .ww2 ∨ next = .tr2 ∨ next = .su2 ∨ next = .ap)
    (hk : k ≠ .slp2 ∧ k ≠ .ac) (hr : k ≠ firstMicro op ∨ relied op s.use = true) :
    CommandMove op k s (snapFirst (.command op second) (.command op next) s) := by
  rcases snapFirst_cases (.command op second) (.command op next) s with ⟨_, h⟩ | ⟨ha, h⟩ <;> rw [h]
  · exact .sampled _ next hnext hn hk hr
  · exact .counted second hsecond hs ha hk hr

theorem needRunning_move {op : Op} {k : Micro} {s t : State} (hk : k = firstMicro op)
    (h : useEmpty s.use = false → CommandMove op k s t) :
    CommandMove op k s (needRunning s t) := by
  rcases needRunning_cases s t with ⟨hu, he⟩ | ⟨_, he⟩ <;> rw [he]
  · exact h hu
  · exact .raised _ _ (.inl hk)

theorem needTicker_move {op : Op} {k : Micro} {s t : State} (hk : k = firstMicro op)
    (h : s.use.lpt = true → CommandMove op k s t) : CommandMove op k s (needTicker s t) := by
  rcases needTicker_cases s t with ⟨hu, he⟩ | ⟨_, he⟩ <;> rw [he]
  · exact h hu
  · exact .raised _ _ (.inl hk)

theorem rtcStart_move {op : Op} {k : Micro} {s : State} {r : Reason} {next : FrontEndPtr}
    (hop : op = .rtcInit ∧ k = .ri1 ∧ next = .idle ∨
      op = .tickerInit ∧ k = .ti1 ∧ r = .lpt ∧ next = .command .tickerInit .armSn1) :
    CommandMove op k s (rtcStart r next s) := by
  rcases rtcStart_cases r next s with ⟨hu, h⟩ | ⟨_, _, h⟩ | ⟨hu, _, h⟩ <;> rw [h]
  · exact .joined r next hop hu
  · exact .raised _ _ (.inl (by rcases hop with ⟨rfl, rfl, _⟩ | ⟨rfl, rfl, _⟩ <;> rfl))
  · exact .started r next hop hu

theorem sleepEntry_move {op : Op} {s : State} {next : FrontEndPtr}
    (hop : op = .sleepEnter ∧ next = .idle ∨
      op = .tickerSleepUntil ∧ next = .command .tickerSleepUntil .su5) :
    CommandMove op .slp1 s (sleepEntry (.command op .slp2) next s) := by
  rcases sleepEntry_cases (.command op .slp2) next s with ⟨hw, h⟩ | ⟨_, _, _, h⟩ | ⟨hw, hm, h⟩ <;>
    rw [h]
  · exact .entryPassed next rfl hw hop
  · exact .raised _ _ (.inr rfl)
  · exact .asleep rfl hw (hop.imp And.left And.left) hm

theorem sleepExit_move {op : Op} {s : State} {next : FrontEndPtr}
    (hop : op = .sleepEnter ∧ next = .idle ∨
      op = .tickerSleepUntil ∧ next = .command .tickerSleepUntil .su5) :
    CommandMove op .slp2 s (sleepExit next s) := by
  rcases sleepExit_cases next s with ⟨hw, h⟩ | ⟨hw, h⟩ <;> rw [h]
  · exact .woken next rfl hw hop
  · exact .pass (.inl ⟨rfl, hw⟩)

theorem stepSB1_move (sel : Selector) (s : State) :
    CommandMove .sleepBlock .sb1 s (stepSB1 sel s) := by
  unfold stepSB1
  split
  · exact .raised _ _ (.inl rfl)
  · split
    · exact .raised _ _ (.inl rfl)
    · exact .blocked _ _ rfl

theorem stepSU1_move (sel : Selector) (s : State) :
    CommandMove .sleepUnblock .su1 s (stepSU1 sel s) := by
  unfold stepSU1
  split
  · exact .raised _ _ (.inl rfl)
  · exact .unblocked _ rfl

theorem stepRI1_move (sel : Selector) (s : State) : CommandMove .rtcInit .ri1 s (stepRI1 sel s) := by
  unfold stepRI1
  split
  · exact .raised _ _ (.inl rfl)
  · exact rtcStart_move (.inl ⟨rfl, rfl, rfl⟩)

theorem stepRF1_move (s : State) : CommandMove .rtcFree .rf1 s (stepRF1 s.tmp.sel s) := by
  unfold stepRF1
  split
  · exact .raised _ _ (.inl rfl)
  · rename_i r hr
    rcases rtcStop_cases r s with ⟨hl, h⟩ | ⟨hl, h⟩ <;> rw [h]
    · exact .left r rfl rfl hl
    · exact .tornDown r rfl rfl hr hl

theorem stepSU2_move (s : State) : CommandMove .tickerSleepUntil .su2 s (stepSU2 s) := by
  unfold stepSU2
  split
  · exact .acceptedSleep rfl rfl
  · exact .refusedSleep rfl rfl

/-- A micro-step of the command in progress. -/
theorem exec_move {op : Op} {k : Micro} {s t : State} (h : s.fault = none)
    (hfe : s.fe = .command op k) (ht : exec (instrOf op s.tmp.sel) s = .next t) :
    CommandMove op k s t := by
  cases op <;>
    simp only [instrOf, exec, execSleepBlock, execSleepUnblock, execSleepEnter, execRtcInit,
      execRtcFree, execRtcReadOvf, execRtcReadExt, execRtcReadWall, execRtcWriteWall, execTickerInit,
      execTickerRead, execTickerSetInt, execTickerGetOvfHi, execTickerGetCompare,
      execTickerSleepUntil] at ht <;>
    rw [commandStep_atStep h hfe rfl] at ht <;>
    injection ht with ht <;> subst ht <;> cases k <;>
    first
    | exact .pass (.inr (by decide))
    | exact stepSB1_move _ _
    | exact stepSU1_move _ _
    | exact stepRI1_move _ _
    | exact stepRF1_move _
    | exact stepSU2_move _
    | exact sleepEntry_move (by simp)
    | exact sleepExit_move (by simp)
    | exact rtcStart_move (by simp)
    | exact needRunning_move rfl fun _ => .responded _ rfl (by decide)
    | exact needTicker_move rfl fun _ => .responded _ rfl (by decide)
    | exact .responded _ rfl (by decide)
    | exact needRunning_move rfl fun hu =>
        snapFirst_move (by decide) (by simp) (by decide) (by simp) (by decide)
          (.inr (by simp [relied, ready, needsRunning, needsTicker, hu]))
    | exact needTicker_move rfl fun hu =>
        snapFirst_move (by decide) (by simp) (by decide) (by simp) (by decide)
          (.inr (by simp [relied, ready, needsRunning, needsTicker, hu]))
    | exact snapFirst_move (by decide) (by simp) (by decide) (by simp) (by decide)
        (.inl (by decide))
    | exact .sampled _ _ (by decide) (by simp) (by decide) (.inl (by decide))
    | exact .prepared _ rfl (by decide)
    | exact .committed _ rfl (by decide) (by simp)
    | exact .wrote rfl rfl

/-- What a step can do, whoever takes it: the machine is not halted, or the turn is a block reset. -/
inductive StepMove (s : State) : State → Prop where
  | reset (h : nextTurn s = .blockReset) : StepMove s (blockReset (spendTurn s))
  | ticked (h : nextTurn s = .tick) (hf : s.fault = none) : StepMove s (tickStep (spendTurn s))
  | handled (h : nextTurn s = .handler) (hf : s.fault = none) :
      StepMove s (handlerStep (spendTurn s))
  | env (e : EnvStep) (t : State) (h : nextTurn s = .env e) (hf : s.fault = none)
      (ht : envStep e (spendTurn s) = .next t) : StepMove s t
  | idled (h : nextTurn s = .frontEnd) (hf : s.fault = none) (hfe : s.fe = .idle) :
      StepMove s (spendTurn s)
  | illegal (h : nextTurn s = .frontEnd) (hf : s.fault = none) (hfe : s.fe = .decode)
      (hd : decode s.cmd = none) : StepMove s (raise .illegalCommand s.cmd (spendTurn s))
  | latched (i : Instr) (h : nextTurn s = .frontEnd) (hf : s.fault = none) (hfe : s.fe = .decode)
      (hd : decode s.cmd = some i) : StepMove s (latch i (spendTurn s))
  | commanded (op : Op) (k : Micro) (t : State) (h : nextTurn s = .frontEnd) (hf : s.fault = none)
      (hfe : s.fe = .command op k) (ht : CommandMove op k (spendTurn s) t) : StepMove s t

theorem exec_decode {i : Instr} {s : State} (h : s.fault = none) (hfe : s.fe = .decode) :
    exec i s = .next (latch i s) := by
  cases i <;> exact commandStep_decode h hfe

theorem frontEndStep_command {op : Op} {k : Micro} {s : State} (hfe : s.fe = .command op k) :
    frontEndStep s = exec (instrOf op s.tmp.sel) s := by
  simp [frontEndStep, currentInstr, hfe]

theorem step_move {s t : State} (ht : step s = .next t) : StepMove s t := by
  unfold step takeTurn at ht
  split at ht
  · rename_i hn; injection ht with ht; subst ht; exact .reset hn
  all_goals
    rename_i hn
    rw [unlessHalted_eq_next] at ht
    obtain ⟨hf, ht⟩ := ht
    rw [spendTurn_fault] at hf
  · injection ht with ht; subst ht; exact .ticked hn hf
  · injection ht with ht; subst ht; exact .handled hn hf
  · rcases hfe : s.fe with _ | _ | ⟨op, k⟩
    · simp only [frontEndStep, spendTurn_fe, hfe, if_true] at ht
      injection ht with ht; subst ht; exact .idled hn hf hfe
    · cases hd : decode s.cmd with
      | none =>
        simp [frontEndStep, currentInstr, hfe, hd] at ht
        subst ht; exact .illegal hn hf hfe hd
      | some i =>
        simp [frontEndStep, currentInstr, hfe, hd] at ht
        rw [exec_decode (by simpa using hf) (by simpa using hfe)] at ht
        injection ht with ht; subst ht; exact .latched i hn hf hfe hd
    · rw [frontEndStep_command (by simpa using hfe)] at ht
      exact .commanded op k t hn hf hfe (exec_move (by simpa using hf) (by simpa using hfe) ht)
  · exact .env _ t hn hf ht

end Sys2Proof.Machine
end

