-- ==== Sys2Proof/Laws/PerInstr.lean ====
section
/-! SUPPORT. What is said of every command as syntax, one lemma a constructor: a command's word has its
RSV bits zero and its own row's OPC, and nothing but a format CS command has SEL bits (R70, R71, R75). -/

namespace Sys2Proof.Laws.EncodedFields

/-- The fields of a command's word (R70, R71). -/
def Statement (i : Instr) : Prop :=
  rsvField (encode i) = 0 ∧ opcField (encode i) = i.opc ∧ selField (encode i) = i.selector ∧
    (i.format ≠ .cs → selField (encode i) = 0)

theorem sleepBlock (sel : Selector) : Statement (.sleepBlock sel) := by
  unfold Statement; revert sel; decide

theorem sleepUnblock (sel : Selector) : Statement (.sleepUnblock sel) := by
  unfold Statement; revert sel; decide

theorem sleepEnter : Statement .sleepEnter := by unfold Statement; decide

theorem rtcInit (sel : Selector) : Statement (.rtcInit sel) := by
  unfold Statement; revert sel; decide

theorem rtcFree (sel : Selector) : Statement (.rtcFree sel) := by
  unfold Statement; revert sel; decide

theorem rtcReadOvf : Statement .rtcReadOvf := by unfold Statement; decide

theorem rtcReadExt : Statement .rtcReadExt := by unfold Statement; decide

theorem rtcReadWall : Statement .rtcReadWall := by unfold Statement; decide

theorem rtcWriteWall : Statement .rtcWriteWall := by unfold Statement; decide

theorem tickerInit : Statement .tickerInit := by unfold Statement; decide

theorem tickerRead : Statement .tickerRead := by unfold Statement; decide

theorem tickerSetInt : Statement .tickerSetInt := by unfold Statement; decide

theorem tickerGetOvfHi : Statement .tickerGetOvfHi := by unfold Statement; decide

theorem tickerGetCompare : Statement .tickerGetCompare := by unfold Statement; decide

theorem tickerSleepUntil : Statement .tickerSleepUntil := by unfold Statement; decide

end Sys2Proof.Laws.EncodedFields
end

