-- ==== Sys2Proof/Tests/Slice0.lean ====
section
/-! SUPPORT. Tests on small states, their expected values from spec/95_test_vectors.md, the rules' own
examples or hand calculation from the rules; then one witness for each statement with hypotheses, a
concrete state and operands that meet all of them together. -/

namespace Sys2Proof.Tests

open Sys2Proof.Machine

/-- The parameters the spec's vectors use (95_test_vectors.md, conventions). -/
def vectorParams : Params :=
  { fTick := 32768, minSleepTicks := 10, lfClockSource := 0, prescaler := 0, deepest := .em3,
    matchOnWriteEqual := false, portByteOrder := .littleEndian }

/-- Block reset under those parameters. -/
def demo : State := { State.reset with params := vectorParams }

/-- The RTC running for both uses, as RTC_INIT leaves it. -/
def running : State :=
  { demo with use := ⟨true, true⟩, ien := ⟨true, false⟩, blk := ⟨0, 1, 0, 0⟩ }

/-- `s` with the front-end at micro-step `k` of `op`. -/
def atMicro (s : State) (op : Op) (k : Micro) : State := { s with fe := .command op k }

/-- `s` with the next turn settled. -/
def turning (s : State) (t : Turn) : State := { s with agenda := [t] }

/-- A projection of the next state, where there is one. -/
def got {α : Type} (o : Host.Outcome State Fault Refusal) (f : State → α) : Option α :=
  match o with
  | .next s => some (f s)
  | .fault _ => none
  | .refused _ => none

/-! ### WellFormed and Decode (R70 to R77; vectors 2.1) -/

theorem test_bad_depth_is_refused :
    Instr.wellFormed (.sleepBlock 0) = false ∧ Instr.wellFormed (.sleepBlock 5) = false ∧
    Instr.wellFormed (.sleepUnblock 0) = false ∧ Instr.wellFormed (.sleepUnblock 15) = false ∧
    Instr.wellFormed (.sleepBlock 1) = true ∧ Instr.wellFormed (.sleepUnblock 4) = true := by decide

theorem test_bad_reason_is_refused :
    Instr.wellFormed (.rtcInit 0) = false ∧ Instr.wellFormed (.rtcInit 3) = false ∧
    Instr.wellFormed (.rtcFree 0) = false ∧ Instr.wellFormed (.rtcFree 15) = false ∧
    Instr.wellFormed (.rtcInit 1) = true ∧ Instr.wellFormed (.rtcFree 2) = true := by decide

/-- The words of the sleep gate, RSV, SEL and OPC written out from R70 and R75. -/
theorem test_decode_sleep_words :
    decode (0#20 ++ 0b0010#4 ++ 0b00000001#8) = some (.sleepBlock 2) ∧
    decode (0#20 ++ 0b0100#4 ++ 0b00000010#8) = some (.sleepUnblock 4) ∧
    decode (0#20 ++ 0b0000#4 ++ 0b00000011#8) = some .sleepEnter := by decide

/-- The words of the RTC driver. -/
theorem test_decode_rtc_words :
    decode (0#20 ++ 0b0010#4 ++ 0b00010000#8) = some (.rtcInit 2) ∧
    decode (0#20 ++ 0b0001#4 ++ 0b00010001#8) = some (.rtcFree 1) ∧
    decode (0#20 ++ 0b0000#4 ++ 0b00010010#8) = some .rtcReadOvf ∧
    decode (0#20 ++ 0b0000#4 ++ 0b00010011#8) = some .rtcReadExt ∧
    decode (0#20 ++ 0b0000#4 ++ 0b00010100#8) = some .rtcReadWall ∧
    decode (0#20 ++ 0b0000#4 ++ 0b00010101#8) = some .rtcWriteWall := by decide

/-- The words of the ticker. -/
theorem test_decode_ticker_words :
    decode (0#20 ++ 0b0000#4 ++ 0b00100000#8) = some .tickerInit ∧
    decode (0#20 ++ 0b0000#4 ++ 0b00100001#8) = some .tickerRead ∧
    decode (0#20 ++ 0b0000#4 ++ 0b00100010#8) = some .tickerSetInt ∧
    decode (0#20 ++ 0b0000#4 ++ 0b00100011#8) = some .tickerGetOvfHi ∧
    decode (0#20 ++ 0b0000#4 ++ 0b00100100#8) = some .tickerGetCompare ∧
    decode (0#20 ++ 0b0000#4 ++ 0b00100101#8) = some .tickerSleepUntil := by decide

/-- Illegal words, and the edges of the unassigned ranges (R77). -/
theorem test_decode_illegal_words :
    ([0x00, 0x04, 0x0F, 0x16, 0x1F, 0x26, 0xFF, 0x1012, 0x80000012, 0x113, 0x115, 0x122, 0x10000210]
      : List Word).all (fun w => decode w == none) = true := by decide

/-- A format CS word with a bad selector decodes, and its command then faults (R77). -/
theorem test_bad_selector_decodes_then_faults :
    decode 0x00000502 = some (.sleepUnblock 5) ∧
    got (exec (.sleepUnblock 5) { atMicro demo .sleepUnblock .su1 with cmd := 0x502 }) (·.fault) =
      some (some ⟨.badArgument, 0x502⟩) := by decide

theorem test_table_word_is_the_command_word :
    decodeTableWord 32 0x00000210 = some (.rtcInit 2) ∧ decodeTableWord 32 0 = none := by decide

/-! ### Sleep gate (vectors 2.10) -/

theorem test_sleep_block_counts :
    got (exec (.sleepBlock 1) { atMicro demo .sleepBlock .sb1 with blk := ⟨1, 0, 0, 0⟩ }) (·.blk) =
      some ⟨2, 0, 0, 0⟩ := by decide

theorem test_sleep_block_at_maximum_faults :
    got (exec (.sleepBlock 3) { atMicro demo .sleepBlock .sb1 with blk := ⟨0, 0, 0xFFFFFFFF, 0⟩ })
      (fun s => (s.fault, s.blk.em3)) = some (some ⟨.blockCountOverflow, 3⟩, 0xFFFFFFFF) := by decide

theorem test_sleep_unblock_counts_and_saturates :
    got (exec (.sleepUnblock 1) { atMicro demo .sleepUnblock .su1 with blk := ⟨2, 0, 0, 0⟩ }) (·.blk) =
      some ⟨1, 0, 0, 0⟩ ∧
    got (exec (.sleepUnblock 4) (atMicro demo .sleepUnblock .su1)) (·.blk) = some ⟨0, 0, 0, 0⟩ := by
  decide

theorem test_select_mode :
    selectMode .em3 ⟨0, 0, 0, 0⟩ = .em3 ∧ selectMode .em3 ⟨0, 1, 0, 0⟩ = .em2 ∧
    selectMode .em3 ⟨1, 1, 0, 0⟩ = .em1 ∧ selectMode .em3 ⟨0, 0, 1, 0⟩ = .em3 ∧
    selectMode .em3 ⟨0, 0, 0, 1⟩ = .em3 ∧ selectMode .em4 ⟨0, 0, 0, 0⟩ = .em4 ∧
    selectMode .em1 ⟨0, 0, 0, 0⟩ = .em1 ∧ selectMode .em3 ⟨0, 1, 0, 1⟩ = .em2 := by decide

theorem test_sleep_enter_sleeps :
    got (exec .sleepEnter (atMicro demo .sleepEnter .slp1)) (fun s => (s.pmode, s.fe)) =
      some (.em3, .command .sleepEnter .slp2) ∧
    got (exec .sleepEnter { atMicro running .sleepEnter .slp1 with flags := ⟨false, true⟩ })
      (fun s => (s.pmode, s.fe)) = some (.em2, .command .sleepEnter .slp2) := by decide

theorem test_sleep_enter_without_retention_faults :
    got (exec .sleepEnter { atMicro running .sleepEnter .slp1 with blk := ⟨0, 0, 0, 0⟩ })
      (fun s => (s.fault, s.pmode)) = some (some ⟨.retentionLost, 3⟩, .em0) := by decide

/-! ### RTC driver (vectors 2.7 to 2.9) -/

theorem test_rtc_init_from_reset :
    got (exec (.rtcInit 2) (atMicro demo .rtcInit .ri1))
      (fun s => (s.use, s.cnt, s.flags, s.ien, s.blk)) =
      some (⟨false, true⟩, 0, ⟨false, false⟩, ⟨true, false⟩, ⟨0, 1, 0, 0⟩) := by decide

theorem test_rtc_init_again_only_adds :
    got (exec (.rtcInit 2)
      { atMicro running .rtcInit .ri1 with use := ⟨true, false⟩, cnt := 0x40 })
      (fun s => (s.use, s.cnt, s.blk.em2)) = some (⟨true, true⟩, 0x40, 1) := by decide

theorem test_rtc_free_tears_down :
    got (exec (.rtcFree 2)
      { atMicro running .rtcFree .rf1 with
        use := ⟨false, true⟩, cnt := 0x40, comp := 0x55, ovf := 5, flags := ⟨true, false⟩ })
      (fun s => ((s.use, s.ien, s.flags), s.blk.em2, s.cnt, s.comp, s.ovf)) =
      some ((⟨false, false⟩, ⟨false, false⟩, ⟨false, false⟩), 0, 0, 0, 5) := by decide

theorem test_rtc_free_of_an_absent_reason :
    got (exec (.rtcFree 1)
      { atMicro running .rtcFree .rf1 with use := ⟨false, true⟩, cnt := 0x40 })
      (fun s => (s.use, s.blk.em2, s.cnt, s.ien)) =
      some (⟨false, true⟩, 1, 0x40, ⟨true, false⟩) := by decide

theorem test_rtc_read_ovf_corrects :
    got (exec .rtcReadOvf { atMicro running .rtcReadOvf .ro1 with ovf := 3, flags := ⟨true, false⟩ })
      (·.resp) = some 4 ∧
    got (exec .rtcReadOvf
      { atMicro running .rtcReadOvf .ro1 with ovf := 0xFFFFFFFF, flags := ⟨true, false⟩ })
      (·.resp) = some 0 := by decide

theorem test_rtc_read_ext_samples :
    got (exec .rtcReadExt
      { atMicro running .rtcReadExt .sn1 with ovf := 0x12345678, cnt := 0xABCDEF })
      (fun s => (s.tmp.now, s.fe)) = some (0x78ABCDEF, .command .rtcReadExt .rx2) ∧
    got (exec .rtcReadExt
      { atMicro running .rtcReadExt .sn1 with ovf := 3, flags := ⟨true, false⟩, cnt := 2 })
      (·.tmp.now) = some 0x04000002 := by decide

theorem test_rtc_read_wall_adds_the_epoch :
    got (exec .rtcReadWall
      { atMicro running .rtcReadWall .rw2 with
        tmp := { Tmp.reset with fullv := 16809984 }, tbase := 488 }) (·.resp) = some 1001 ∧
    got (exec .rtcReadWall
      { atMicro running .rtcReadWall .rw2 with tmp := { Tmp.reset with fullv := 2 ^ 32 } })
      (·.resp) = some 131072 := by decide

theorem test_rtc_write_wall_sets_the_epoch :
    got (exec .rtcWriteWall
      { atMicro running .rtcWriteWall .ww2 with
        tmp := { Tmp.reset with fullv := 2 ^ 24, a := 1000 } }) (·.tbase) = some 488 ∧
    got (exec .rtcWriteWall
      { atMicro running .rtcWriteWall .ww2 with tmp := { Tmp.reset with fullv := 2 ^ 24 } })
      (·.tbase) = some 0xFFFFFE00 := by decide

/-! ### Ticker (vectors 2.2 to 2.4, 2.7, 2.11) -/

theorem test_between :
    between 100 110 200 = true ∧ between 195 205 200 = false ∧ between 195 105 200 = false ∧
    between 0xFFFFFFF0 5 0x10 = true ∧ between 0xFFFFFFF0 0x20 0x10 = false ∧
    between 100 100 200 = false ∧ between 100 200 200 = false ∧ between 100 150 100 = false ∧
    between 200 50 100 = true ∧ between 200 250 100 = true ∧ between 200 150 100 = false ∧
    between 0 0xFFFFFFFF 0xFFFFFFFF = false ∧ between 0 0xFFFFFFFE 0xFFFFFFFF = true := by decide

theorem test_arm_compute :
    armCompute 0x100 0x100 0x200 = (0x200, 0x200) ∧
    armCompute 0x100 0x100 0x01000100 = (0xFF, 0x010000FF) ∧
    armCompute 0x100 0x100 0x010000FF = (0xFF, 0x010000FF) ∧
    armCompute 0x12000000 0 0xFFFFFFFF = (0xFFFFFF, 0xFFFFFFFF) ∧
    armCompute 1 1 0x80000000 = (0, 0x01000000) ∧
    armCompute 0x00500000 0x500000 0x00400000 = (0x4FFFFF, 0x014FFFFF) ∧
    armCompute 0xFFFFFF00 0xFFFF00 0x10 = (0x10, 0x10) ∧
    armCompute 0xFFFFFFFF 0xFFFFFF 0x01000000 = (0xFFFFFE, 0x00FFFFFE) := by decide

theorem test_ticker_init_starts :
    got (exec .tickerInit (atMicro demo .tickerInit .ti1)) (fun s => (s.use, s.blk, s.ien, s.fe)) =
      some (⟨false, true⟩, ⟨0, 1, 0, 0⟩, ⟨true, false⟩, .command .tickerInit .armSn1) := by decide

theorem test_ticker_init_prepares_all_bits_set :
    got (exec .tickerInit (atMicro running .tickerInit .ap)) (fun s => (s.tmp.comp, s.tmp.cache)) =
      some (0xFFFFFF, 0xFFFFFFFF) := by decide

theorem test_ticker_read_samples :
    got (exec .tickerRead { atMicro running .tickerRead .sn1 with ovf := 0x12, cnt := 0x345678 })
      (·.tmp.now) = some 0x12345678 ∧
    got (exec .tickerRead
      { atMicro running .tickerRead .sn1 with use := ⟨true, false⟩, cmd := 0x21 }) (·.fault) =
      some (some ⟨.notRunning, 0x21⟩) := by decide

/-- The commits of vectors 2.4, the state before them at CNT 0x10 or 0x20. -/
theorem test_ticker_set_int_commits :
    got (exec .tickerSetInt
      { atMicro running .tickerSetInt .ac with
        cnt := 0x10, flags := ⟨false, true⟩, tmp := { Tmp.reset with comp := 0x20, cache := 0x20 } })
      (fun s => (s.comp, s.cache, s.flags, s.ien, s.fe)) =
      some (0x20, 0x20, ⟨false, false⟩, ⟨true, true⟩, .idle) := by decide

theorem test_ticker_set_int_match_on_write :
    got (exec .tickerSetInt
      { atMicro running .tickerSetInt .ac with
        cnt := 0x20, tmp := { Tmp.reset with comp := 0x20 } }) (·.flags.comp) = some false ∧
    got (exec .tickerSetInt
      { atMicro running .tickerSetInt .ac with
        cnt := 0x20, tmp := { Tmp.reset with comp := 0x20 }
        params := { vectorParams with matchOnWriteEqual := true } }) (·.flags.comp) = some true ∧
    got (exec .tickerSetInt
      { atMicro running .tickerSetInt .ac with
        cnt := 0x10, flags := ⟨false, true⟩, tmp := { Tmp.reset with comp := 0x20 }
        params := { vectorParams with armClearsCompareFlag := false } }) (·.flags.comp) =
      some true := by decide

theorem test_ticker_get_ovf_hi :
    got (exec .tickerGetOvfHi { atMicro running .tickerGetOvfHi .go1 with ovf := 0x12345678 })
      (·.resp) = some 0x00123456 ∧
    got (exec .tickerGetOvfHi
      { atMicro running .tickerGetOvfHi .go1 with ovf := 0xFF, flags := ⟨true, false⟩ }) (·.resp) =
      some 1 := by decide

theorem test_ticker_get_compare_returns_the_cache :
    got (exec .tickerGetCompare
      { atMicro running .tickerGetCompare .gc1 with comp := 0xFF, cache := 0x010000FF }) (·.resp) =
      some 0x010000FF := by decide

theorem test_ticker_sleep_until_decides :
    got (exec .tickerSleepUntil
      { atMicro running .tickerSleepUntil .su2 with
        tmp := { Tmp.reset with now := 100, a := 100, b := 200 } }) (fun s => (s.tmp.wake, s.fe)) =
      some (110, .command .tickerSleepUntil .armSn1) ∧
    got (exec .tickerSleepUntil
      { atMicro running .tickerSleepUntil .su2 with
        resp := 7, tmp := { Tmp.reset with now := 195, a := 195, b := 200 } })
      (fun s => (s.resp, s.fe)) = some (0, .idle) := by decide

theorem test_ticker_sleep_until_wakes :
    got (exec .tickerSleepUntil
      { atMicro running .tickerSleepUntil .slp2 with
        pmode := .em2, flags := ⟨true, false⟩, irqMask := true }) (fun s => (s.pmode, s.fe)) =
      some (.em0, .command .tickerSleepUntil .su5) := by decide

/-! ### Tick, Handler, Env (vectors 2.1, 2.5, 2.6) -/

theorem test_tick :
    got (takeTurn .tick { running with cnt := 0x10, comp := 0x20 }) (fun s => (s.cnt, s.flags)) =
      some (0x11, ⟨false, false⟩) ∧
    got (takeTurn .tick { running with cnt := 0xFFFFFE, comp := 0xFFFFFF })
      (fun s => (s.cnt, s.flags)) = some (0xFFFFFF, ⟨false, true⟩) ∧
    got (takeTurn .tick { running with cnt := 0xFFFFFF, comp := 5 }) (fun s => (s.cnt, s.flags)) =
      some (0, ⟨true, false⟩) ∧
    got (takeTurn .tick { running with cnt := 0xFFFFFF, comp := 0 }) (fun s => (s.cnt, s.flags)) =
      some (0, ⟨true, true⟩) := by decide

theorem test_tick_faults_on_a_lost_wrap :
    got (takeTurn .tick { running with cnt := 0xFFFFFF, flags := ⟨true, false⟩, ovf := 0x2A })
      (fun s => (s.fault, s.cnt)) = some (some ⟨.overflowLost, 0x2A⟩, 0xFFFFFF) := by decide

theorem test_handler :
    got (takeTurn .handler { running with flags := ⟨true, false⟩, ovf := 7 })
      (fun s => (s.flags, s.ien, s.ovf)) = some (⟨false, false⟩, ⟨true, false⟩, 8) ∧
    got (takeTurn .handler { running with flags := ⟨true, true⟩, ien := ⟨true, true⟩, ovf := 7 })
      (fun s => (s.flags, s.ien, s.ovf)) = some (⟨false, false⟩, ⟨true, false⟩, 8) ∧
    got (takeTurn .handler { running with flags := ⟨true, false⟩, ovf := 0xFFFFFFFF })
      (fun s => s.ovf) = some 0 := by decide

theorem test_handler_disabled :
    got (takeTurn .handler { running with flags := ⟨false, true⟩ }) (·.flags.comp) = some true ∧
    got (takeTurn .handler { running with flags := ⟨true, false⟩, irqMask := true })
      (·.flags.of) = some true ∧
    got (takeTurn .handler { running with flags := ⟨true, false⟩, pmode := .em2 }) (·.flags.of) =
      some true := by decide

theorem test_port_busy :
    got (takeTurn (.env (.issue 0x21)) (atMicro running .tickerSleepUntil .slp2)) (·.fault) =
      some (some ⟨.portBusy, 0⟩) ∧
    got (takeTurn (.env (.writeOpb 1)) (atMicro running .tickerSleepUntil .slp2)) (·.fault) =
      some (some ⟨.portBusy, 2⟩) := by decide

/-- The pseudo-commands expand as R80 lists them. -/
theorem test_pseudo_commands :
    callSteps (pseudoFirst (.tickerArm 9)) = [.writeOpa 0, .writeOpb 9, .issue 0x22] ∧
    (pseudoSecond 100 (.waitUntil 200)).map callSteps =
      some [.writeOpa 100, .writeOpb 200, .issue 0x25] ∧
    callSteps (pseudoFirst .rtcReleaseAll) = [.issue 0x111] ∧
    (pseudoSecond 0 .rtcReleaseAll).map callSteps = some [.issue 0x211] := by decide

/-- A word placed for the next step is decoded by it, from reset itself. -/
theorem test_first_step_decodes :
    got (step (State.reset.withFetchWord 32 0x210)) (fun s => (s.fe, s.tmp.sel)) =
      some (.command .rtcInit .ri1, 2) := by rfl

/-! ### Witnesses: the hypotheses of each statement are met -/

/-- A consistent state asleep in EM2 with a deadline armed and the counter one below its wrap. -/
def asleep : State :=
  { atMicro running .tickerSleepUntil .slp2 with
    ien := ⟨true, true⟩, pmode := .em2, cnt := 0xFFFFFF, comp := 5, cache := 0x01000005
    tmp := { Tmp.reset with mode := .em2 } }

/-- A consistent state about to commit an arm. -/
def arming : State :=
  { atMicro running .tickerSetInt .ac with
    tmp := { Tmp.reset with comp := 0x20, cache := 0x01000020 } }

/-- The front-end of a state at a micro-step is at no other. -/
theorem fe_unique {s : State} {op : Op} {k : Micro} (h : s.fe = .command op k) (o : Op) (m : Micro)
    (h' : s.fe = .command o m) : o = op ∧ m = k := by
  rw [h] at h'
  injection h' with ho hk
  exact ⟨ho.symm, hk.symm⟩

theorem witness_asleep_is_consistent : Consistent asleep := by
  have only := fe_unique (s := asleep) (op := .tickerSleepUntil) (k := .slp2) rfl
  refine ⟨by decide, by decide, by decide, rfl, ?_, ?_, ?_, ?_, fun _ => ⟨_, rfl⟩, fun _ _ => rfl, by decide⟩
  · intro o m h; obtain ⟨rfl, rfl⟩ := only o m h; decide
  · intro o m h _; obtain ⟨rfl, rfl⟩ := only o m h; decide
  · intro o m h hm; obtain ⟨rfl, rfl⟩ := only o m h; revert hm; decide
  · intro o h; exact absurd (only o _ h).2 (by decide)

theorem witness_arming_is_consistent : Consistent arming := by
  have only := fe_unique (s := arming) (op := .tickerSetInt) (k := .ac) rfl
  refine ⟨by decide, by decide, by decide, rfl, ?_, ?_, ?_, fun _ _ => by decide,
    fun h => absurd rfl h, fun o h => absurd (only o _ h).2 (by decide), by decide⟩
  · intro o m h; obtain ⟨rfl, rfl⟩ := only o m h; decide
  · intro o m h _; obtain ⟨rfl, rfl⟩ := only o m h; decide
  · intro o m h hm; obtain ⟨rfl, rfl⟩ := only o m h; revert hm; decide

theorem witness_running_is_consistent : Consistent running := by
  constructor <;> simp [running, demo, State.reset, useEmpty, modeRank]

theorem witness_StepRunsTheCommand :
    (let s := turning { demo with fe := .decode, cmd := 0x210 } .frontEnd;
      s.fault = none ∧ nextTurn s = .frontEnd ∧ s.fe = .decode ∧ decode s.cmd = some (.rtcInit 2)) ∧
    (let s := turning (atMicro running .rtcReadOvf .ro1) .frontEnd;
      s.fault = none ∧ nextTurn s = .frontEnd ∧ s.fe = .command .rtcReadOvf .ro1 ∧
        instrOf .rtcReadOvf s.tmp.sel = .rtcReadOvf) := by decide

theorem witness_FetchWordRunsNext :
    State.reset.fault = none ∧ decodeTableWord 32 0x25 = some .tickerSleepUntil := by decide

theorem witness_DecodeStepLatches :
    demo.fault = none ∧ ({ demo with fe := .decode } : State).fe = .decode ∧
    decode 0x201 = some (.sleepBlock 2) ∧ decode 0x1012 = none := by decide

/-- Each selector clause at its edges, each depth below and at its maximum. -/
theorem witness_SleepBlockCountsOrFaults :
    AtStep .sleepBlock .sb1 (atMicro demo .sleepBlock .sb1) ∧
    (0#4).toNat < 1 ∧ 4 < (5#4).toNat ∧ 4 < (15#4).toNat ∧
    (1#4).toNat = depthCode .em1 ∧ (4#4).toNat = depthCode .em4 ∧
    blkGet demo.blk .em1 ≠ 0xFFFFFFFF#32 ∧
    blkGet ⟨0xFFFFFFFF, 0xFFFFFFFF, 0xFFFFFFFF, 0xFFFFFFFF⟩ .em4 = 0xFFFFFFFF#32 := by decide

theorem witness_SleepUnblockCountsOrFaults :
    AtStep .sleepUnblock .su1 (atMicro demo .sleepUnblock .su1) ∧
    (0#4).toNat < 1 ∧ 4 < (5#4).toNat ∧ (1#4).toNat = depthCode .em1 ∧
    (4#4).toNat = depthCode .em4 := by decide

/-- A wake pending, none pending with the RTC off, on, and on with EM2 unblocked, for each command. -/
theorem witness_SleepSequenceSleepsAndWakes :
    ([Op.sleepEnter, .tickerSleepUntil].all fun op => [Micro.slp1, .slp2].all fun k =>
      decide ((atMicro demo op k).fe = .command op k)) = true ∧
    demo.fault = none ∧ wakeCond { demo with extWake := true } = true ∧ wakeCond demo = false ∧
    demo.use = ⟨false, false⟩ ∧ wakeCond running = false ∧ running.use ≠ ⟨false, false⟩ ∧
    depthCode (selectMode running.params.deepest running.blk) ≤ 2 ∧
    2 < depthCode (selectMode running.params.deepest ⟨0, 0, 0, 0⟩) := by decide

theorem witness_RtcInitStartsOrFaults :
    AtStep .rtcInit .ri1 (atMicro demo .rtcInit .ri1) ∧
    (0#4 ≠ 1#4 ∧ 0#4 ≠ 2#4) ∧ (3#4 ≠ 1#4 ∧ 3#4 ≠ 2#4) ∧ demo.use = ⟨false, false⟩ ∧
    demo.blk.em2 ≠ 0xFFFFFFFF#32 ∧
    ({ demo with blk := ⟨0, 0xFFFFFFFF, 0, 0⟩ } : State).blk.em2 = 0xFFFFFFFF#32 ∧
    running.use ≠ ⟨false, false⟩ := by decide

/-- The last reason, one of two, and none. -/
theorem witness_RtcFreeStopsOrFaults :
    AtStep .rtcFree .rf1 (atMicro demo .rtcFree .rf1) ∧ demo.use = ⟨false, false⟩ ∧
    ((⟨false, true⟩ : UseSet) ≠ ⟨false, false⟩ ∧
      (⟨false && (2#4 != 1), true && (2#4 != 2)⟩ : UseSet) = ⟨false, false⟩) ∧
    (⟨true && (2#4 != 1), true && (2#4 != 2)⟩ : UseSet) ≠ ⟨false, false⟩ := by decide

theorem witness_NotRunningFaults :
    AtStep .rtcReadExt (firstMicro .rtcReadExt) (atMicro demo .rtcReadExt .sn1) ∧
    needsRunning .rtcReadExt = true ∧ demo.use = ⟨false, false⟩ ∧
    AtStep .tickerRead (firstMicro .tickerRead)
      { atMicro running .tickerRead .sn1 with use := ⟨true, false⟩ } ∧
    needsTicker .tickerRead = true := by decide

theorem witness_ReadOvfRespondsOrFaults :
    AtStep .rtcReadOvf .ro1 (atMicro demo .rtcReadOvf .ro1) ∧ demo.use = ⟨false, false⟩ ∧
    AtStep .rtcReadOvf .ro1 (atMicro running .rtcReadOvf .ro1) ∧
    running.use ≠ ⟨false, false⟩ := by decide

theorem witness_TickerGettersRespondOrFault :
    demo.fault = none ∧ demo.use.lpt = false ∧ running.fault = none ∧ running.use.lpt = true ∧
    (atMicro demo .tickerGetOvfHi .go1).fe = .command .tickerGetOvfHi .go1 ∧
    (atMicro demo .tickerGetCompare .gc1).fe = .command .tickerGetCompare .gc1 := by decide

theorem witness_TimeSnapshotSamples :
    running.fault = none ∧ running.params.extReadAtomic = true ∧
    ({ vectorParams with extReadAtomic := false } : Params).extReadAtomic = false ∧
    ([Op.rtcReadExt, .rtcReadWall, .rtcWriteWall, .tickerRead, .tickerSleepUntil, .tickerInit,
      .tickerSetInt].all fun op => ready op running.use) = true ∧
    (atMicro running .tickerInit .armSn2).fe = .command .tickerInit .armSn2 := by decide

theorem witness_TimeCommandsComplete :
    running.fault = none ∧
    ([(Op.rtcReadExt, Micro.rx2), (.tickerRead, .tr2), (.rtcReadWall, .rw2),
      (.rtcWriteWall, .ww2)].all fun p =>
        decide ((atMicro running p.1 p.2).fe = .command p.1 p.2)) = true := by decide

theorem witness_ReadCommandsOnlyRespond :
    got (exec .tickerRead (atMicro running .tickerRead .sn1)) (·.fault) = some none := by decide

/-- Both branches at the threshold, and the counter at 0 and 1. -/
theorem witness_ArmComputeBranches :
    (0x010000FF + 2 ^ 32 - 0x100) % 2 ^ 32 ≤ 0x00FFFFFF ∧
    0x00FFFFFF < (0x01000100 + 2 ^ 32 - 0x100) % 2 ^ 32 ∧
    0x00FFFFFF < (0xFFFFFFFF + 2 ^ 32 - 0) % 2 ^ 32 ∧ (0#24).toNat = 0 ∧
    0x00FFFFFF < (0x80000000 + 2 ^ 32 - 1) % 2 ^ 32 ∧ 0 < (1#24).toNat ∧
    (1#32).toNat % 2 ^ 24 = (1#24).toNat := by decide

theorem witness_ArmPreparesAndCommits :
    arming.fault = none ∧ arming.fe = .command .tickerSetInt .ac ∧
    (atMicro running .tickerInit .ap).fe = .command .tickerInit .ap ∧
    (atMicro running .tickerSleepUntil .ac).fe = .command .tickerSleepUntil .ac := by decide

theorem witness_TickerInitStartsTheRtc :
    AtStep .tickerInit .ti1 (atMicro demo .tickerInit .ti1) ∧ demo.use = ⟨false, false⟩ ∧
    demo.blk.em2 ≠ 0xFFFFFFFF#32 ∧
    ({ demo with blk := ⟨0, 0xFFFFFFFF, 0, 0⟩ } : State).blk.em2 = 0xFFFFFFFF#32 ∧
    AtStep .tickerInit .ti1 (atMicro running .tickerInit .ti1) ∧
    running.use ≠ ⟨false, false⟩ := by decide

theorem witness_SleepUntilDecidesAndCompletes :
    running.fault = none ∧ between 100 (100 + 10) 200 = true ∧ between 195 (195 + 10) 200 = false ∧
    ([Micro.su2, .su5].all fun k =>
      decide ((atMicro running .tickerSleepUntil k).fe = .command .tickerSleepUntil k)) = true := by
  decide

theorem witness_TickAdvancesTheCounter :
    running.fault = none ∧ useEmpty running.use = false ∧ running.cnt.toNat ≠ 0xFFFFFF ∧
    ({ running with cnt := 0xFFFFFF } : State).cnt.toNat = 0xFFFFFF ∧ running.flags.of = false ∧
    ({ running with flags := ⟨true, false⟩ } : State).flags.of = true := by decide

theorem witness_HandlerServicesPendingFlags :
    running.fault = none ∧ running.irqMask = false ∧ running.pmode = .em0 ∧ running.ien.of = true ∧
    ({ running with flags := ⟨true, false⟩ } : State).flags.of = true ∧ arming.fault = none ∧
    ({ asleep with flags := ⟨false, true⟩ } : State).flags.comp = true ∧ asleep.ien.comp = true := by
  decide

theorem witness_DisabledAgentsPass :
    demo.fault = none ∧ demo.use = ⟨false, false⟩ ∧ rtcLine demo = false ∧ demo.fe = .idle ∧
    ({ demo with irqMask := true } : State).irqMask = true ∧ asleep.pmode ≠ .em0 := by decide

theorem witness_EnvStepsAsListed :
    demo.fault = none ∧ demo.fe = .idle ∧ asleep.fault = none ∧ asleep.fe ≠ .idle ∧
    (raise .portBusy 0 demo).fault ≠ none := by decide

theorem witness_PartialPortAccessIsRefused :
    demo.fault = none ∧ nextTurn (turning demo (.env (.partialAccess .opa))) =
      .env (.partialAccess .opa) := by decide

theorem witness_FaultHaltsUntilReset :
    (turning (raise .portBusy 0 demo) .tick).fault = some ⟨.portBusy, 0⟩ ∧
    nextTurn (turning (raise .portBusy 0 demo) .tick) ≠ .blockReset ∧
    nextTurn (turning (raise .portBusy 0 demo) .blockReset) = .blockReset := by decide

theorem witness_FaultingStepWritesNothingElse :
    got (step (turning (atMicro demo .tickerRead .sn1) .frontEnd)) (·.fault) =
      some (some ⟨.notRunning, 0⟩) := by decide

theorem witness_OnlyTheHandlerWritesOvf :
    let s := turning { running with flags := ⟨true, false⟩ } .handler
    nextTurn s ≠ .blockReset ∧ got (step s) (·.ovf) = some 1 ∧ s.ovf = 0 := by decide

theorem witness_OnlyTheArmWritesTheDeadline :
    let s := turning arming .frontEnd
    nextTurn s ≠ .blockReset ∧ got (step s) (fun t => (t.cache, t.comp)) = some (0x01000020, 0x20) ∧
      s.cache = 0 ∧ s.comp = 0 := by decide

theorem witness_OnlyWriteWallWritesTbase :
    let s := turning { atMicro running .rtcWriteWall .ww2 with tmp := { Tmp.reset with a := 5 } } .frontEnd
    nextTurn s ≠ .blockReset ∧ got (step s) (·.tbase) = some 5 ∧ s.tbase = 0 := by decide

theorem witness_RespChangesOnlyOnCompletion :
    let s := turning { atMicro running .tickerRead .tr2 with tmp := { Tmp.reset with now := 5 } } .frontEnd
    nextTurn s ≠ .blockReset ∧ got (step s) (·.resp) = some 5 ∧ s.resp = 0 := by decide

theorem witness_UseAndPowerModeWriters :
    (let s := turning { atMicro demo .rtcInit .ri1 with tmp := { Tmp.reset with sel := 1 } } .frontEnd;
      nextTurn s ≠ .blockReset ∧ got (step s) (·.use) = some ⟨true, false⟩ ∧
        s.use = ⟨false, false⟩) ∧
    (let s := turning (atMicro demo .sleepEnter .slp1) .frontEnd;
      nextTurn s ≠ .blockReset ∧ got (step s) (·.pmode) = some .em3 ∧ s.pmode = .em0) := by decide

/-- An arm commit enables the compare interrupt, and the Handler's service disables it. -/
theorem witness_CompareInterruptIsOneShot :
    nextTurn (turning arming .frontEnd) ≠ .blockReset ∧ arming.ien.comp = false ∧
    got (step (turning arming .frontEnd)) (·.ien.comp) = some true ∧
    got (step (turning { running with ien := ⟨true, true⟩, flags := ⟨false, true⟩ } .handler))
      (·.ien.comp) = some false := by decide

theorem witness_AgentsWriteOnlyTheirElements :
    got (takeTurn .tick running) (·.cnt) = some 1 ∧
    got (takeTurn .handler { running with flags := ⟨true, false⟩ }) (·.ovf) = some 1 ∧
    got (takeTurn (.env .mask) running) (·.irqMask) = some true := by decide

theorem witness_ParametersNeverChange :
    got (step (turning running .tick)) (fun t => t.params == running.params) = some true := by decide

/-- With `witness_asleep_is_consistent`: a step from a consistent state. -/
theorem witness_EveryStepKeepsConsistency :
    got (step (turning asleep .tick)) (fun t => (t.cnt, t.flags.of)) = some (0, true) := by decide

/-- With `witness_arming_is_consistent`, and `asleep`, whose deadline is tied. -/
theorem witness_DeadlineStaysTiedToCompare :
    got (step (turning arming .frontEnd)) (·.comp) = some 0x20 ∧
    arming.fe = .command .tickerSetInt .ac ∧ asleep.cache.setWidth 24 = asleep.comp ∧
    isTeardown (nextTurn (turning asleep .tick)) (turning asleep .tick) = false ∧
    got (step (turning asleep .tick)) (·.fault) = some none := by decide

/-- With `witness_asleep_is_consistent`: a run with one wrap. -/
theorem witness_CorrectedCountCountsWraps :
    got (runTurns [.tick, .frontEnd, .handler] asleep) (fun t => (t.fault, t.ovf)) = some (none, 1) ∧
    keepsOverflow [.tick, .frontEnd, .handler] asleep = true ∧
    countWraps [.tick, .frontEnd, .handler] asleep = 1 := by decide

theorem witness_TimeReadHidesTheHandler :
    running.fault = none ∧ running.fe = .idle ∧ useEmpty running.use = false ∧
    running.use.lpt = true ∧
    [Turn.frontEnd, .handler, .frontEnd, .env .mask, .frontEnd, .frontEnd].all isQuiet = true ∧
    4 ≤ frontEndTurns [.frontEnd, .handler, .frontEnd, .env .mask, .frontEnd, .frontEnd] := by decide

theorem witness_WallClockRoundTrip :
    running.fault = none ∧ running.fe = .idle ∧ useEmpty running.use = false ∧
    (List.replicate 4 Turn.frontEnd).all isQuiet = true ∧
    4 ≤ frontEndTurns (List.replicate 4 .frontEnd) := by decide

theorem witness_WrapBetweenSamplesReadsLow :
    let s : State := { atMicro running .rtcReadExt .sn1 with
      params := { vectorParams with extReadAtomic := false }, cnt := 0xFFFFFF }
    AtStep .rtcReadExt .sn1 s ∧ useEmpty s.use = false ∧ s.params.extReadAtomic = false ∧
      s.cnt = 0xFFFFFF#24 ∧ s.flags.of = false := by decide

theorem witness_TickerSetIntArmsItsDeadline :
    running.fault = none ∧ running.fe = .idle ∧ running.use.lpt = true := by decide

/-- At time 100 or 195 with now the same and until = 200 (vectors S3 and S4). -/
theorem witness_SleepUntilArmsThenSleeps :
    let s : State := { running with cnt := 100 }
    let r : State := { running with cnt := 195 }
    (r.fault = none ∧ r.fe = .idle ∧ r.use.lpt = true ∧
      between 195 (ext32 (ovfc r) r.cnt + r.params.minSleepTicks) 200 = false) ∧
    (s.fault = none ∧ s.fe = .idle ∧ s.use.lpt = true ∧
      between 100 (ext32 (ovfc s) s.cnt + s.params.minSleepTicks) 200 = true ∧
      s.flags = ⟨false, false⟩ ∧ s.extWake = false ∧ s.params.matchOnWriteEqual = false ∧
      depthCode (selectMode s.params.deepest s.blk) ≤ 2) := by decide

/-- With `witness_asleep_is_consistent`. -/
theorem witness_SleepEndsAtTheLatestOnTheWrap :
    AtStep .tickerSleepUntil .slp2 asleep ∧ useEmpty asleep.use = false ∧
    wakeCond asleep = false := by decide

theorem witness_MatchComesWhenTheCounterArrives :
    running.fault = none ∧ useEmpty running.use = false ∧ running.flags = ⟨false, false⟩ := by decide

theorem witness_BoundedCommandsComplete :
    running.fault = none ∧ running.fe = .idle ∧
    ([Instr.sleepBlock 1, .sleepBlock 4, .sleepUnblock 1, .sleepUnblock 4, .rtcInit 1, .rtcInit 2,
      .rtcFree 1, .rtcFree 2, .rtcReadOvf, .rtcReadExt, .rtcReadWall, .rtcWriteWall, .tickerInit,
      .tickerRead, .tickerSetInt, .tickerGetOvfHi, .tickerGetCompare].all fun i =>
        i.wellFormed && isBounded (opOf i) && ready (opOf i) running.use) = true ∧
    ready .tickerInit demo.use = true ∧ ready .rtcInit demo.use = true ∧
    ([Depth.em1, .em2, .em3, .em4].all fun d => blkGet running.blk d != 0xFFFFFFFF#32) = true ∧
    (List.replicate 6 Turn.frontEnd).all isQuiet = true ∧
    6 ≤ frontEndTurns (List.replicate 6 .frontEnd) := by decide

end Sys2Proof.Tests
end

section
/-! The parameters along a step (R8, log entry 5): one lemma for each agent's step, put together over
the cases of `StepMove`. -/

namespace Sys2Proof.Machine

@[simp] theorem tickStep_params (s : State) : (tickStep s).params = s.params := by
  rcases tickStep_cases s with ⟨_, h⟩ | ⟨_, _, h⟩ | ⟨_, _, h⟩ <;> rw [h]
  exact raise_params _ _ s

@[simp] theorem handlerStep_params (s : State) : (handlerStep s).params = s.params := by
  rcases handlerStep_cases s with ⟨_, h⟩ | ⟨_, h⟩ <;> rw [h]

/-- A port write keeps the parameters if the write it lets through does. -/
theorem portWrite_params {n : Word} {s written : State} (h : written.params = s.params) :
    (portWrite n s written).params = s.params := by
  rcases portWrite_cases n s written with ⟨_, he⟩ | ⟨_, he⟩ <;> rw [he]
  · exact h
  · exact raise_params _ _ s

theorem envStep_params {e : EnvStep} {s t : State} (ht : envStep e s = .next t) :
    t.params = s.params := by
  cases e with
  | writeOpa | writeOpb | issue => injection ht with ht; subst ht; exact portWrite_params rfl
  | readResp | mask | unmask | raiseWake | saveHook | restoreHook =>
    injection ht with ht; subst ht; rfl
  | partialAccess => cases ht

/-- No micro-step of a command writes the parameters: each move is a record update that does not name
them. -/
theorem CommandMove.params_eq {op : Op} {k : Micro} {s t : State} (h : CommandMove op k s t) :
    t.params = s.params := by
  cases h <;> rfl

theorem StepMove.params_eq {s t : State} (h : StepMove s t) : t.params = s.params := by
  have spent : (spendTurn s).params = s.params := spendTurn_params s
  cases h with
  | reset => exact (blockReset_params _).trans spent
  | ticked => exact (tickStep_params _).trans spent
  | handled => exact (handlerStep_params _).trans spent
  | env e _ _ _ ht => exact (envStep_params ht).trans spent
  | idled => exact spent
  | illegal => exact (raise_params _ _ _).trans spent
  | latched => exact (latch_params _ _).trans spent
  | commanded op k _ _ _ _ ht => exact ht.params_eq.trans spent

/-- Settles O41, from the cases of a step (`step_move`). -/
theorem parametersNeverChange : Obligations.ParametersNeverChange :=
  fun _ _ ht => (step_move ht).params_eq

end Sys2Proof.Machine
end

section
/-! The consistent states (R42) in two parts: what the clock registers satisfy (`ClockOk`) and where FE
stands (`Placed`). A state is shown consistent from its clock and, while awake, its pointer. -/

namespace Sys2Proof.Machine

/-- R42 items 1, 2, 3, 6, said of the registers they speak of. -/
structure ClockRegsOk (use : UseSet) (cnt comp : Count) (flags ien : IntFlags) (freeze : Bool) :
    Prop where
  stopped : useEmpty use = true → cnt = 0 ∧ flags = noFlags ∧ ien = noFlags ∧ comp = 0
  overflowEnabled : useEmpty use = false → ien.of = true
  compareEnabled : ien.comp = true → useEmpty use = false
  thawed : freeze = false

/-- The clock's part of `Consistent`. -/
def ClockOk (s : State) : Prop := ClockRegsOk s.use s.cnt s.comp s.flags s.ien s.freeze

/-- What `Consistent` says of a state whose FE is `(op, k)`, the sleep aside (R24, R110, R114, R131). -/
structure Placed (op : Op) (k : Micro) (s : State) : Prop where
  named : k ∈ microSteps op
  checked : k ≠ firstMicro op → relied op s.use = true
  twoSample : k = .sn2 ∨ k = .armSn2 → s.params.extReadAtomic = false
  tied : k = .ac → s.tmp.cache.setWidth 24 = s.tmp.comp

theorem Consistent.clock {s : State} (h : Consistent s) : ClockOk s :=
  ⟨h.stopped, h.overflowEnabled, h.compareEnabled, h.thawed⟩

theorem Consistent.placed {s : State} {op : Op} {k : Micro} (h : Consistent s)
    (hfe : s.fe = .command op k) : Placed op k s where
  named := h.named op k hfe
  checked := h.checked op k hfe
  twoSample := h.twoSample op k hfe
  tied hk := h.tied op (hk ▸ hfe)

/-- Outside SLP2 a consistent state is in EM0. -/
theorem Consistent.awake {s : State} (h : Consistent s) (hfe : ∀ op, s.fe ≠ .command op .slp2) :
    s.pmode = .em0 := by
  by_contra hp
  obtain ⟨op, hop⟩ := h.held hp
  exact hfe op hop

theorem Consistent.awake_of_ne_slp2 {s : State} {op : Op} {k : Micro} (h : Consistent s)
    (hfe : s.fe = .command op k) (hk : k ≠ .slp2) : s.pmode = .em0 :=
  h.awake fun op' h' => by
    rw [hfe] at h'
    injection h' with _ hk'
    exact hk hk'

/-- While awake, clock and pointer make a state consistent. -/
theorem consistent_of_awake {t : State} (hc : ClockOk t) (hp : t.pmode = .em0)
    (hfe : ∀ op k, t.fe = .command op k → k ≠ .slp2 ∧ Placed op k t) : Consistent t where
  stopped := hc.stopped
  overflowEnabled := hc.overflowEnabled
  compareEnabled := hc.compareEnabled
  thawed := hc.thawed
  named op k h := (hfe op k h).2.named
  checked op k h := (hfe op k h).2.checked
  twoSample op k h := (hfe op k h).2.twoSample
  tied op h := (hfe op .ac h).2.tied rfl
  held h := absurd hp h
  mode op h := absurd rfl (hfe op .slp2 h).1
  retained _ := by rw [hp]; decide

theorem consistent_idle {t : State} (hc : ClockOk t) (hp : t.pmode = .em0) (hfe : t.fe = .idle) :
    Consistent t :=
  consistent_of_awake hc hp fun _ _ h => by rw [hfe] at h; cases h

theorem consistent_at {t : State} {op : Op} {k : Micro} (hc : ClockOk t) (hp : t.pmode = .em0)
    (hfe : t.fe = .command op k) (hk : k ≠ .slp2) (hpl : Placed op k t) : Consistent t :=
  consistent_of_awake hc hp fun _ _ h => by rw [hfe] at h; cases h; exact ⟨hk, hpl⟩

/-- Asleep in SLP2: the mode is the selected one, and with the RTC running it keeps the clock alive. -/
theorem consistent_asleep {t : State} {op : Op} (hc : ClockOk t) (hfe : t.fe = .command op .slp2)
    (hpl : Placed op .slp2 t) (hp : t.pmode = modeOfDepth t.tmp.mode)
    (hret : useEmpty t.use = false → modeRank t.pmode ≤ 2) : Consistent t where
  stopped := hc.stopped
  overflowEnabled := hc.overflowEnabled
  compareEnabled := hc.compareEnabled
  thawed := hc.thawed
  named _ _ h := by rw [hfe] at h; cases h; exact hpl.named
  checked _ _ h := by rw [hfe] at h; cases h; exact hpl.checked
  twoSample _ _ h := by rw [hfe] at h; cases h; exact hpl.twoSample
  tied _ h := by rw [hfe] at h; cases h
  held _ := ⟨op, hfe⟩
  mode _ _ := hp
  retained := hret

/-- A step that moves only the clock keeps consistency if it leaves the clock in order. -/
theorem Consistent.of_clock {s t : State} (h : Consistent s) (hc : ClockOk t) (huse : t.use = s.use)
    (hfe : t.fe = s.fe) (htmp : t.tmp = s.tmp) (hp : t.pmode = s.pmode)
    (hparams : t.params = s.params) : Consistent t where
  stopped := hc.stopped
  overflowEnabled := hc.overflowEnabled
  compareEnabled := hc.compareEnabled
  thawed := hc.thawed
  named := by rw [hfe]; exact h.named
  checked := by rw [hfe, huse]; exact h.checked
  twoSample := by rw [hfe, hparams]; exact h.twoSample
  tied := by rw [hfe, htmp]; exact h.tied
  held := by rw [hfe, hp]; exact h.held
  mode := by rw [hfe, hp, htmp]; exact h.mode
  retained := by rw [huse, hp]; exact h.retained

/-- The model's own turn fields are no state of the block. -/
theorem Consistent.with_turns {s : State} (h : Consistent s) (a : List Turn) (n : Nat) :
    Consistent { s with agenda := a, turnNo := n } :=
  h.of_clock h.clock rfl rfl rfl rfl rfl

theorem Consistent.spendTurn {s : State} (h : Consistent s) : Consistent (spendTurn s) := by
  unfold Machine.spendTurn
  split
  · exact h.with_turns _ _
  · exact h.with_turns _ _

theorem Consistent.raise {s : State} (h : Consistent s) (c : FaultCode) (info : Word) :
    Consistent (raise c info s) :=
  h.of_clock h.clock rfl rfl rfl rfl rfl

end Sys2Proof.Machine
end

section
/-! Each move of a command keeps the clock and places FE (R101 to R139). -/

namespace Sys2Proof.Machine

/-- With a use reason recorded only the overflow enable and FREEZE are constrained. -/
theorem ClockRegsOk.of_running {use : UseSet} {cnt comp : Count} {flags ien : IntFlags}
    {freeze : Bool} (hu : useEmpty use = false) (hof : ien.of = true) (hz : freeze = false) :
    ClockRegsOk use cnt comp flags ien freeze :=
  ⟨fun h => absurd h (by simp [hu]), fun _ => hof, fun _ => hu, hz⟩

/-- A torn-down clock. -/
theorem ClockRegsOk.of_stopped {use : UseSet} (hu : useEmpty use = true) :
    ClockRegsOk use 0 0 noFlags noFlags false :=
  ⟨fun _ => ⟨rfl, rfl, rfl, rfl⟩, fun h => absurd hu (by simp [h]), fun h => absurd h (by decide), rfl⟩

/-- The clock's condition asks of USE only whether it is empty. -/
theorem ClockRegsOk.of_useEmpty_eq {use use' : UseSet} {cnt comp : Count} {flags ien : IntFlags}
    {freeze : Bool} (h : ClockRegsOk use cnt comp flags ien freeze) (hu : useEmpty use' = useEmpty use) :
    ClockRegsOk use' cnt comp flags ien freeze := by
  refine ⟨?_, ?_, ?_, h.thawed⟩ <;> rw [hu]
  exacts [h.stopped, h.overflowEnabled, h.compareEnabled]

/-- A reason that is not the last leaves USE as empty or non-empty as it was. -/
theorem useEmpty_useErase {r : Reason} {u : UseSet} (h : lastReason r u = false) :
    useEmpty (useErase r u) = useEmpty u := by
  have empty : useEmpty u = true → useEmpty (useErase r u) = true := by
    rw [useEmpty_iff]; rintro rfl; cases r <;> rfl
  revert h empty
  unfold lastReason
  cases useEmpty u <;> simp

theorem useEmpty_useErase_of_last {r : Reason} {u : UseSet} (h : lastReason r u = true) :
    useEmpty (useErase r u) = true := by
  simp only [lastReason, Bool.and_eq_true] at h
  exact h.2

theorem useEmpty_of_lpt {u : UseSet} (h : u.lpt = true) : useEmpty u = false := by
  simp [useEmpty, h]

/-- A second sample, the two steps of an arm and the held sleep follow some other micro-step. -/
theorem ne_firstMicro (op : Op) {k : Micro} (hk : k ∈ [Micro.sn2, .armSn2, .ap, .ac, .slp2]) :
    k ≠ firstMicro op := by
  rintro rfl
  revert hk
  cases op <;> decide

theorem firstMicro_mem (op : Op) : firstMicro op ∈ microSteps op := by cases op <;> decide

theorem placed_firstMicro (op : Op) (s : State) : Placed op (firstMicro op) s := by
  have later {k : Micro} (hk : k ∈ [Micro.sn2, .armSn2, .ap, .ac, .slp2]) : firstMicro op ≠ k :=
    (ne_firstMicro op hk).symm
  exact ⟨firstMicro_mem op, fun h => absurd rfl h,
    fun h => absurd h (not_or.2 ⟨later (by decide), later (by decide)⟩),
    fun h => absurd h (later (by decide))⟩

/-- Every other micro-step but the second samples and the commit needs only the use its command relies
on. -/
theorem placed_of_relied {op : Op} {k : Micro} {s : State} (hm : k ∈ microSteps op)
    (hr : relied op s.use = true) (hk : k ≠ .sn2 ∧ k ≠ .armSn2 ∧ k ≠ .ac) : Placed op k s := by
  obtain ⟨hsn2, harm, hac⟩ := hk
  exact ⟨hm, fun _ => hr, fun h => absurd h (not_or.2 ⟨hsn2, harm⟩), fun h => absurd h hac⟩

/-- Past its first micro-step, or just checked, a command may rely on its use. -/
theorem Placed.relied {op : Op} {k : Micro} {s : State} (h : Placed op k s)
    (hr : k ≠ firstMicro op ∨ relied op s.use = true) : relied op s.use = true :=
  hr.elim h.checked id

/-- Only the arming commands have a commit, and each relies on USE.LPT (R110, R134). -/
theorem lpt_of_relied_ac {op : Op} {u : UseSet} (hm : Micro.ac ∈ microSteps op)
    (h : relied op u = true) : u.lpt = true := by
  revert hm h
  cases op <;> simp [microSteps, relied, ready, needsTicker, needsRunning]

/-- R131: both branches of the arm's computation tie the deadline to the compare value. -/
theorem armCompute_tied (now : Word) (cnt : Count) (deadline : Word) :
    (armCompute now cnt deadline).2.setWidth 24 = (armCompute now cnt deadline).1 := by
  unfold armCompute
  split
  · have high : ∀ x : Word, (x &&& 0xFF000000#32).setWidth 24 = 0 := by
      intro x; rw [BitVec.setWidth_and]; simp
    have low : (cnt.setWidth 32 - 1 : Word).setWidth 24 = cnt - 1 := by bv_omega
    rw [BitVec.setWidth_or, high, low]
    exact BitVec.zero_or
  · rfl

/-- A depth that keeps the clock is at most EM2 (R105, R179). -/
theorem modeRank_le_of_retained {d : Depth} (h : losesRetention d = false) :
    modeRank (modeOfDepth d) ≤ 2 := by
  revert h; cases d <;> decide

/-- After an entry that found a wake pending, and after a wake from SLP2, the command goes on awake. -/
theorem consistent_after_sleep {op : Op} {k : Micro} {next : FrontEndPtr} {t : State}
    (hc : ClockOk t) (hp : t.pmode = .em0) (hfe : t.fe = next)
    (hrelied : k ≠ firstMicro op → relied op t.use = true) (hk : k = .slp1 ∨ k = .slp2)
    (hop : op = .sleepEnter ∧ next = .idle ∨
      op = .tickerSleepUntil ∧ next = .command .tickerSleepUntil .su5) : Consistent t := by
  rcases hop with ⟨rfl, rfl⟩ | ⟨rfl, rfl⟩
  · exact consistent_idle hc hp hfe
  · have hr := hrelied (by rcases hk with rfl | rfl <;> decide)
    exact consistent_at hc hp hfe (by decide) (placed_of_relied (by decide) hr (by decide))

/-- RI1 and TI1 end with the RTC running: at Idle, or at the arm of TICKER_INIT, which has recorded
LPT itself (R111, R134). -/
theorem consistent_after_start {op : Op} {k : Micro} {r : Reason} {u : UseSet} {next : FrontEndPtr}
    {t : State} (hc : ClockOk t) (hp : t.pmode = .em0) (hfe : t.fe = next)
    (hu : t.use = useInsert r u)
    (hop : op = .rtcInit ∧ k = .ri1 ∧ next = .idle ∨
      op = .tickerInit ∧ k = .ti1 ∧ r = .lpt ∧ next = .command .tickerInit .armSn1) :
    Consistent t := by
  rcases hop with ⟨_, _, rfl⟩ | ⟨_, _, rfl, rfl⟩
  · exact consistent_idle hc hp hfe
  · have hr : relied .tickerInit t.use = true := by rw [hu]; rfl
    exact consistent_at hc hp hfe (by decide) (placed_of_relied (by decide) hr (by decide))

/-- A micro-step of a command keeps a consistent state consistent. -/
theorem CommandMove.consistent {op : Op} {k : Micro} {s t : State} (h : CommandMove op k s t)
    (hs : Consistent s) (hfe : s.fe = .command op k) : Consistent t := by
  have here := hs.placed hfe
  have clock := hs.clock
  have awake : k ≠ .slp2 → s.pmode = .em0 := hs.awake_of_ne_slp2 hfe
  have awake_unless (hop : Micro.slp2 ∉ microSteps op) : s.pmode = .em0 :=
    awake fun hk => hop (hk ▸ here.named)
  cases h with
  | pass => exact hs
  | raised c info => exact hs.raise c info
  | blocked _ _ hop | unblocked _ hop =>
    exact consistent_idle clock (awake_unless (by subst hop; decide)) rfl
  | entryPassed next hk _ hop =>
    exact consistent_after_sleep clock (awake (by simp [hk])) rfl here.checked (.inl hk) hop
  | asleep hk _ hop hm =>
    have hr : relied op s.use = true := by
      rcases hop with rfl | rfl
      · rfl
      · exact here.checked (by simp [hk, firstMicro])
    refine consistent_asleep clock rfl
      (placed_of_relied (by rcases hop with rfl | rfl <;> decide) hr (by decide)) rfl ?_
    intro hu
    exact modeRank_le_of_retained (hm.resolve_left (by simp [show useEmpty s.use = false from hu]))
  | woken next hk _ hop =>
    exact consistent_after_sleep clock rfl rfl here.checked (.inr hk) hop
  | joined r next hop hu =>
    have hp := awake (by rcases hop with ⟨_, rfl, _⟩ | ⟨_, rfl, _⟩ <;> decide)
    exact consistent_after_start
      (.of_running (useInsert_nonempty r s.use) (clock.overflowEnabled hu) clock.thawed) hp rfl rfl hop
  | started r next hop =>
    have hp := awake (by rcases hop with ⟨_, rfl, _⟩ | ⟨_, rfl, _⟩ <;> decide)
    exact consistent_after_start
      (.of_running (useInsert_nonempty r s.use) rfl clock.thawed) hp rfl rfl hop
  | left r _ hk hu =>
    exact consistent_idle (clock.of_useEmpty_eq (useEmpty_useErase hu)) (awake (by simp [hk])) rfl
  | tornDown r _ hk _ hu =>
    have stopped : ClockRegsOk (useErase r s.use) 0 0 noFlags noFlags s.freeze :=
      clock.thawed ▸ .of_stopped (useEmpty_useErase_of_last hu)
    exact consistent_idle stopped (awake (by simp [hk])) rfl
  | responded _ _ hk => exact consistent_idle clock (awake hk.1) rfl
  | refusedSleep _ hk => exact consistent_idle clock (awake (by simp [hk])) rfl
  | acceptedSleep hop hk =>
    subst hop hk
    exact consistent_at clock (awake (by decide)) rfl (by decide)
      (placed_of_relied (by decide) (here.checked (by decide)) (by decide))
  | counted second hm hsec ha hk hr =>
    refine consistent_at clock (awake hk.1) rfl (by rcases hsec with rfl | rfl <;> decide)
      ⟨hm, fun _ => here.relied hr, fun _ => ha, fun h => ?_⟩
    subst h; simp at hsec
  | sampled o next hm hn hk hr =>
    have plain : next ≠ .slp2 ∧ next ≠ .sn2 ∧ next ≠ .armSn2 ∧ next ≠ .ac := by
      rcases hn with rfl | rfl | rfl | rfl | rfl | rfl <;> decide
    exact consistent_at clock (awake hk.1) rfl plain.1
      (placed_of_relied hm (here.relied hr) plain.2)
  | prepared d hk hm =>
    have hr : relied op s.use = true := here.checked (hk ▸ ne_firstMicro op (by decide))
    exact consistent_at clock (awake (by simp [hk])) rfl (by decide)
      ⟨hm, fun _ => hr, by simp, fun _ => armCompute_tied _ _ _⟩
  | committed next hk ha hn =>
    have hp := awake (by simp [hk])
    have hr := here.checked ha
    have running := useEmpty_of_lpt (lpt_of_relied_ac (hk ▸ here.named) hr)
    have hc : ClockOk (armCommit next s) :=
      .of_running running (clock.overflowEnabled running) rfl
    rcases hn with rfl | ⟨rfl, rfl⟩
    · exact consistent_idle hc hp rfl
    · exact consistent_at hc hp rfl (by decide) (placed_of_relied (by decide) hr (by decide))
  | wrote _ hk => exact consistent_idle clock (awake (by simp [hk])) rfl

/-! ### The other agents (R165, R170, R185, R200) -/

theorem Consistent.tickStep {s : State} (h : Consistent s) : Consistent (tickStep s) := by
  rcases tickStep_cases s with ⟨_, he⟩ | ⟨_, _, he⟩ | ⟨hu, _, he⟩ <;> rw [he]
  · exact h
  · exact h.raise _ _
  · exact h.of_clock (.of_running hu (h.overflowEnabled hu) h.thawed) rfl rfl rfl rfl rfl

theorem Consistent.handlerStep {s : State} (h : Consistent s) : Consistent (handlerStep s) := by
  rcases handlerStep_cases s with ⟨_, he⟩ | ⟨_, he⟩ <;> rw [he]
  · exact h
  · refine h.of_clock ⟨fun hu => ?_, h.overflowEnabled, fun hc => h.compareEnabled ?_, h.thawed⟩
      rfl rfl rfl rfl rfl
    · obtain ⟨hcnt, _, hien, hcomp⟩ := h.stopped hu
      exact ⟨hcnt, rfl, by simp [serviceEnables, hien, noFlags], hcomp⟩
    · simp only [serviceEnables, Bool.and_eq_true] at hc
      exact hc.1

theorem Consistent.portWrite {n : Word} {s written : State} (h : Consistent s)
    (hw : s.fe = .idle → Consistent written) : Consistent (portWrite n s written) := by
  rcases portWrite_cases n s written with ⟨hfe, he⟩ | ⟨_, he⟩ <;> rw [he]
  · exact hw hfe
  · exact h.raise _ _

theorem Consistent.envStep {e : EnvStep} {s t : State} (h : Consistent s)
    (ht : envStep e s = .next t) : Consistent t := by
  cases e with
  | writeOpa | writeOpb =>
    injection ht with ht
    exact ht ▸ h.portWrite fun _ => h.of_clock h.clock rfl rfl rfl rfl rfl
  | issue =>
    injection ht with ht
    subst ht
    refine h.portWrite fun hfe => ?_
    exact consistent_of_awake h.clock (h.awake (by simp [hfe])) nofun
  | readResp | mask | unmask | raiseWake | saveHook | restoreHook =>
    injection ht with ht
    exact ht ▸ h.of_clock h.clock rfl rfl rfl rfl rfl
  | partialAccess => cases ht

theorem consistent_blockReset (s : State) : Consistent (blockReset s) :=
  consistent_idle (.of_stopped rfl) rfl rfl

/-- The decode step goes to a first micro-step. -/
theorem Consistent.latch {s : State} (h : Consistent s) (hfe : s.fe = .decode) (i : Instr) :
    Consistent (latch i s) :=
  consistent_at h.clock (h.awake (by simp [hfe])) rfl
    (ne_firstMicro _ (by decide)).symm (placed_firstMicro _ _)

theorem StepMove.consistent {s t : State} (h : StepMove s t) (hs : Consistent s) : Consistent t := by
  cases h with
  | reset => exact consistent_blockReset _
  | ticked => exact hs.spendTurn.tickStep
  | handled => exact hs.spendTurn.handlerStep
  | env _ _ _ _ ht => exact hs.spendTurn.envStep ht
  | idled => exact hs.spendTurn
  | illegal => exact hs.spendTurn.raise _ _
  | latched i _ _ hfe => exact hs.spendTurn.latch ((spendTurn_fe s).trans hfe) i
  | commanded _ _ _ _ _ hfe ht => exact ht.consistent hs.spendTurn ((spendTurn_fe s).trans hfe)

/-- Settles O42: `Consistent` is kept by each case of a step (`step_move`). -/
theorem everyStepKeepsConsistency : Obligations.EveryStepKeepsConsistency :=
  fun _ _ hs ht => (step_move ht).consistent hs

/-- Settles O43. -/
theorem resetIsConsistent : Obligations.ResetIsConsistent :=
  consistent_idle (.of_stopped rfl) rfl rfl

end Sys2Proof.Machine
end

section
/-! Halting and block reset (R39, R41, R160, R200). -/

namespace Sys2Proof.Machine

/-- While FAULT holds a record every turn but a block reset is the fault outcome (R160). -/
theorem takeTurn_halted {tn : Turn} {s : State} {r : FaultRecord} (hf : s.fault = some r)
    (htn : tn ≠ .blockReset) : takeTurn tn s = .fault (.halted r) := by
  cases tn with
  | blockReset => exact absurd rfl htn
  | _ => exact unlessHalted_halted hf

/-- Settles O31. -/
theorem faultHaltsUntilReset : Obligations.FaultHaltsUntilReset := by
  refine fun s r hf => ⟨takeTurn_halted (by simpa using hf), fun hn => ?_⟩
  refine ⟨blockReset (spendTurn s), by rw [step, hn]; rfl, ?_⟩
  rw [blockReset, spendTurn_params]

/-- Settles O33. -/
theorem blockResetValues : Obligations.BlockResetValues := fun s =>
  ⟨blockReset s, rfl, rfl, rfl, rfl, rfl, rfl, rfl, rfl, rfl, rfl, rfl, rfl, rfl, rfl, rfl, rfl, rfl,
    rfl, rfl, rfl⟩

end Sys2Proof.Machine
end

section
/-! The corrected overflow count along a run (R42 item 5, R58): one step moves it by its wrap, then
induction on the schedule. -/

namespace Sys2Proof.Machine

/-- The turn on which RF1 removes the last reason (R112). -/
theorem isTeardown_iff (tn : Turn) (s : State) :
    isTeardown tn s = true ↔ tn = .frontEnd ∧ s.fe = .command .rtcFree .rf1 ∧
      ∃ r, reasonOfSel s.tmp.sel = some r ∧ lastReason r s.use = true := by
  unfold isTeardown
  cases reasonOfSel s.tmp.sel <;> simp [and_assoc]

@[simp] theorem isTeardown_spendTurn (tn : Turn) (s : State) :
    isTeardown tn (spendTurn s) = isTeardown tn s := by simp [isTeardown]

@[simp] theorem isWrap_spendTurn (tn : Turn) (s : State) :
    isWrap tn (spendTurn s) = isWrap tn s := by simp [isWrap, nextCount]

/-- Only the Tick wraps the counter. -/
theorem isWrap_of_ne_tick {tn : Turn} (s : State) (h : tn ≠ .tick) : isWrap tn s = false := by
  simp [isWrap, beq_eq_false_iff_ne.2 h]

/-- The corrected count reads OVF and IF.OF alone. -/
theorem ovfc_congr {s t : State} (ho : t.ovf = s.ovf) (hf : t.flags.of = s.flags.of) :
    ovfc t = ovfc s := by simp [ovfc, ho, hf]

@[simp] theorem ovfc_spendTurn (s : State) : ovfc (spendTurn s) = ovfc s :=
  ovfc_congr (spendTurn_ovf s) (congrArg IntFlags.of (spendTurn_flags s))

/-- A Tick without a fault adds its wrap to the corrected count (R165, R167). -/
theorem ovfc_tickStep {s : State} (hf : (tickStep s).fault = none) :
    ovfc (tickStep s) = ovfc s + BitVec.ofNat 32 (isWrap .tick s).toNat := by
  rcases tickStep_cases s with ⟨hu, he⟩ | ⟨_, _, he⟩ | ⟨hu, hl, he⟩
  · simp [he, isWrap, hu]
  · simp [he] at hf
  · rw [he]
    by_cases hwrap : nextCount s = 0#24
    · have served : s.flags.of = false := by simpa [losesOverflow, hwrap] using hl
      simp [ovfc_eq, tickFlags, isWrap, hu, hwrap, served]
    · have no_wrap : (nextCount s == 0#24) = false := beq_eq_false_iff_ne.2 hwrap
      simp [ovfc, tickFlags, isWrap, hu, no_wrap]

/-- No micro-step of a command moves the corrected count, but a teardown that discards a pending
overflow (R112). -/
theorem CommandMove.ovfc_eq {op : Op} {k : Micro} {s t : State} (h : CommandMove op k s t)
    (hs : Consistent s) (hfe : s.fe = .command op k)
    (hkeep : isTeardown .frontEnd s = true → s.flags.of = false) : ovfc t = ovfc s := by
  cases h with
  | started r next _ hu =>
    obtain ⟨_, hflags, _⟩ := hs.stopped hu
    exact ovfc_congr rfl (congrArg IntFlags.of hflags).symm
  | tornDown r hop hk hr hu =>
    subst hop hk
    exact ovfc_congr rfl (hkeep ((isTeardown_iff _ _).2 ⟨rfl, hfe, r, hr, hu⟩)).symm
  | _ => rfl

theorem ovfc_envStep {e : EnvStep} {s t : State} (ht : envStep e s = .next t) : ovfc t = ovfc s := by
  cases e with
  | writeOpa | writeOpb | issue =>
    injection ht with ht
    subst ht
    rcases portWrite_cases _ s _ with ⟨_, he⟩ | ⟨_, he⟩ <;> rw [he] <;> rfl
  | readResp | mask | unmask | raiseWake | saveHook | restoreHook =>
    injection ht with ht; subst ht; rfl
  | partialAccess => cases ht

/-- One step that neither faults nor discards a pending overflow moves the corrected count by its
wrap. -/
theorem ovfc_step {s t : State} (hs : Consistent s) (ht : step s = .next t) (hf : t.fault = none)
    (hreset : nextTurn s ≠ .blockReset)
    (hkeep : isTeardown (nextTurn s) s = true → s.flags.of = false) :
    ovfc t = ovfc s + BitVec.ofNat 32 (isWrap (nextTurn s) s).toNat := by
  have no_wrap (hn : nextTurn s ≠ .tick) (h : ovfc t = ovfc (spendTurn s)) :
      ovfc t = ovfc s + BitVec.ofNat 32 (isWrap (nextTurn s) s).toNat := by
    simp [h, isWrap_of_ne_tick s hn]
  cases step_move ht with
  | reset hn => exact absurd hn hreset
  | ticked hn => simpa [hn] using ovfc_tickStep hf
  | handled hn => exact no_wrap (by simp [hn]) (ovfc_handlerStep _)
  | env e t hn _ he => exact no_wrap (by simp [hn]) (ovfc_envStep he)
  | idled hn => exact no_wrap (by simp [hn]) rfl
  | illegal hn => exact no_wrap (by simp [hn]) rfl
  | latched i hn => exact no_wrap (by simp [hn]) rfl
  | commanded op k t hn _ hfe hm =>
    rw [hn] at hkeep
    exact no_wrap (by simp [hn])
      (hm.ovfc_eq hs.spendTurn (by simpa using hfe) (by simpa using hkeep))

/-- While halted only a block reset goes on (R160). -/
theorem afterTurn_halted {tn : Turn} {s : State} {r : FaultRecord} (hf : s.fault = some r)
    (htn : tn ≠ .blockReset) : afterTurn tn s = .fault (.halted r) :=
  takeTurn_halted (s := { s with agenda := [] }) hf htn

/-- A run that goes on and ends without a fault takes its first turn and runs the rest. -/
theorem runTurns_cons_eq_next {tn : Turn} {ts : List Turn} {s t : State}
    (h : runTurns (tn :: ts) s = .next t) :
    ∃ u, afterTurn tn s = .next u ∧ runTurns ts u = .next t := by
  unfold runTurns at h
  cases hu : afterTurn tn s with
  | next u => rw [hu] at h; exact ⟨u, rfl, h⟩
  | fault r => rw [hu] at h; cases h
  | refused r => rw [hu] at h; cases h

theorem countWraps_cons {tn : Turn} {ts : List Turn} {s u : State} (hu : afterTurn tn s = .next u) :
    countWraps (tn :: ts) s = (isWrap tn s).toNat + countWraps ts u := by
  rw [countWraps, hu]

theorem keepsOverflow_cons {tn : Turn} {ts : List Turn} {s u : State}
    (hu : afterTurn tn s = .next u) :
    keepsOverflow (tn :: ts) s = true ↔
      tn ≠ .blockReset ∧ (isTeardown tn s = true → s.flags.of = false) ∧
        keepsOverflow ts u = true := by
  rw [keepsOverflow, hu]
  cases isTeardown tn s <;> simp [and_assoc]

/-- A run without a block reset that ends without a fault starts without one. -/
theorem fault_none_of_run {ts : List Turn} {s t : State} (ht : runTurns ts s = .next t)
    (hf : t.fault = none) (hkeep : keepsOverflow ts s = true) : s.fault = none := by
  cases ts with
  | nil => injection ht with ht; exact ht ▸ hf
  | cons tn ts =>
    obtain ⟨u, hu, _⟩ := runTurns_cons_eq_next ht
    obtain ⟨htn, _⟩ := (keepsOverflow_cons hu).1 hkeep
    cases hs : s.fault with
    | none => rfl
    | some r => rw [afterTurn_halted hs htn] at hu; cases hu

/-- Settles O45, by induction on the schedule with `Consistent` as the invariant. -/
theorem correctedCountCountsWraps : Obligations.CorrectedCountCountsWraps := by
  intro ts
  induction ts with
  | nil =>
    intro s t _ ht _ _
    injection ht with ht
    simp [ht, countWraps]
  | cons tn ts ih =>
    intro s t hs ht hf hkeep
    obtain ⟨u, hu, hrun⟩ := runTurns_cons_eq_next ht
    obtain ⟨htn, htear, hrest⟩ := (keepsOverflow_cons hu).1 hkeep
    have hs' : Consistent { s with agenda := [tn] } := hs.with_turns _ _
    have head : ovfc u = ovfc s + BitVec.ofNat 32 (isWrap tn s).toNat :=
      ovfc_step hs' hu (fault_none_of_run hrun hf hrest) htn htear
    have tail := ih u t ((step_move hu).consistent hs') hrun hf hrest
    rw [tail, head, countWraps_cons hu, BitVec.ofNat_add, BitVec.add_assoc]

end Sys2Proof.Machine
end

section
/-! Who may write what (R22, R27, R31 to R36, R43): the frames of Tick, Handler and Env, then the moves
of a command that write each register. -/

namespace Sys2Proof.Machine

theorem tickStep_frame (s : State) :
    tickStep s =
      { s with
        cnt := (tickStep s).cnt, flags := (tickStep s).flags, fault := (tickStep s).fault } := by
  rcases tickStep_cases s with ⟨_, he⟩ | ⟨_, _, he⟩ | ⟨_, _, he⟩ <;> rw [he]
  rfl

theorem handlerStep_frame (s : State) :
    handlerStep s =
      { s with
        flags := (handlerStep s).flags, ien := { s.ien with comp := (handlerStep s).ien.comp }
        ovf := (handlerStep s).ovf } := by
  rcases handlerStep_cases s with ⟨_, he⟩ | ⟨_, he⟩ <;> rw [he]
  rfl

/-- What Env's steps leave alone (R185). -/
def EnvFrame (s t : State) : Prop :=
  t = { s with cmd := t.cmd, opa := t.opa, opb := t.opb, fe := t.fe, irqMask := t.irqMask,
               extWake := t.extWake, fault := t.fault }

theorem EnvFrame.portWrite {n : Word} {s written : State} (h : EnvFrame s written) :
    EnvFrame s (portWrite n s written) := by
  rcases portWrite_cases n s written with ⟨_, he⟩ | ⟨_, he⟩ <;> rw [he]
  · exact h
  · rfl

theorem envStep_frame {e : EnvStep} {s t : State} (ht : envStep e s = .next t) : EnvFrame s t := by
  cases e with
  | writeOpa | writeOpb | issue => injection ht with ht; exact ht ▸ EnvFrame.portWrite rfl
  | readResp | mask | unmask | raiseWake | saveHook | restoreHook =>
    injection ht with ht; exact ht ▸ rfl
  | partialAccess => cases ht

/-- Settles O40, agent by agent. -/
theorem agentsWriteOnlyTheirElements : Obligations.AgentsWriteOnlyTheirElements := by
  refine fun s t => ⟨fun ht => ?_, fun ht => ?_, fun e ht => ?_⟩ <;>
    obtain ⟨_, ht⟩ := unlessHalted_eq_next.1 ht
  · injection ht with ht
    exact ht ▸ tickStep_frame s
  · injection ht with ht
    exact ht ▸ handlerStep_frame s
  · exact envStep_frame ht

/-- The registers that, block reset apart, only a micro-step of a command writes (R43). -/
structure CommandRegsKept (s t : State) : Prop where
  resp : t.resp = s.resp
  comp : t.comp = s.comp
  cache : t.cache = s.cache
  tbase : t.tbase = s.tbase
  use : t.use = s.use
  pmode : t.pmode = s.pmode

theorem commandRegsKept_spendTurn (s : State) : CommandRegsKept s (spendTurn s) := by
  constructor <;> simp

theorem CommandRegsKept.trans {s t u : State} (h : CommandRegsKept s t) (h' : CommandRegsKept t u) :
    CommandRegsKept s u :=
  ⟨h'.resp.trans h.resp, h'.comp.trans h.comp, h'.cache.trans h.cache, h'.tbase.trans h.tbase,
    h'.use.trans h.use, h'.pmode.trans h.pmode⟩

theorem commandRegsKept_tickStep (s : State) : CommandRegsKept s (tickStep s) := by
  rw [tickStep_frame]; exact ⟨rfl, rfl, rfl, rfl, rfl, rfl⟩

theorem commandRegsKept_handlerStep (s : State) : CommandRegsKept s (handlerStep s) := by
  rw [handlerStep_frame]; exact ⟨rfl, rfl, rfl, rfl, rfl, rfl⟩

theorem EnvFrame.commandRegsKept {s t : State} (h : EnvFrame s t) : CommandRegsKept s t := by
  rw [h]; exact ⟨rfl, rfl, rfl, rfl, rfl, rfl⟩

/-- A step that is no block reset keeps these registers, or is a micro-step of the command in
progress. -/
theorem step_kept_or_command {s t : State} (ht : step s = .next t)
    (hreset : nextTurn s ≠ .blockReset) :
    CommandRegsKept s t ∨ nextTurn s = .frontEnd ∧
      ∃ op k, s.fe = .command op k ∧ CommandMove op k (spendTurn s) t := by
  have spent := commandRegsKept_spendTurn s
  cases step_move ht with
  | reset h => exact absurd h hreset
  | ticked => exact .inl (spent.trans (commandRegsKept_tickStep _))
  | handled => exact .inl (spent.trans (commandRegsKept_handlerStep _))
  | env _ _ _ _ he => exact .inl (spent.trans (envStep_frame he).commandRegsKept)
  | idled => exact .inl spent
  | illegal => exact .inl (spent.trans ⟨rfl, rfl, rfl, rfl, rfl, rfl⟩)
  | latched => exact .inl (spent.trans ⟨rfl, rfl, rfl, rfl, rfl, rfl⟩)
  | commanded op k _ hn _ hfe hm => exact .inr ⟨hn, op, k, hfe, hm⟩

/-! ### OVF (R31) -/

theorem CommandMove.ovf_eq {op : Op} {k : Micro} {s t : State} (h : CommandMove op k s t) :
    t.ovf = s.ovf := by
  cases h <;> rfl

theorem EnvFrame.ovf_eq {s t : State} (h : EnvFrame s t) : t.ovf = s.ovf := by rw [h]

theorem tickStep_ovf (s : State) : (tickStep s).ovf = s.ovf := by rw [tickStep_frame]

/-- The Handler counts a pending overflow and nothing else (R170). -/
theorem handlerStep_ovf (s : State) :
    (handlerStep s).ovf = s.ovf ∨ s.flags.of = true ∧ (handlerStep s).ovf = s.ovf + 1 := by
  rcases handlerStep_cases s with ⟨_, he⟩ | ⟨_, he⟩ <;> rw [he]
  · exact .inl rfl
  · cases hof : s.flags.of <;> simp [serviceOvf, hof]

/-- Settles O34, from the cases of a step. -/
theorem onlyTheHandlerWritesOvf : Obligations.OnlyTheHandlerWritesOvf := by
  intro s t ht hreset hne
  have unchanged {P : Prop} (h : t.ovf = (spendTurn s).ovf) : P :=
    absurd (h.trans (spendTurn_ovf s)) hne
  cases step_move ht with
  | reset h => exact absurd h hreset
  | ticked => exact unchanged (tickStep_ovf _)
  | handled hn =>
    rcases handlerStep_ovf (spendTurn s) with h | ⟨hof, h⟩
    · exact unchanged h
    · exact ⟨hn, by simpa using hof, by simpa using h⟩
  | env _ _ _ _ he => exact unchanged (envStep_frame he).ovf_eq
  | idled | illegal | latched => exact unchanged rfl
  | commanded _ _ _ _ _ _ hm => exact unchanged hm.ovf_eq

/-! ### CACHE and COMP (R27, R32, R42 item 4) -/

/-- What a micro-step does to the deadline: nothing, AC's two writes, or the teardown's clear. -/
theorem CommandMove.deadline {op : Op} {k : Micro} {s t : State} (h : CommandMove op k s t) :
    t.cache = s.cache ∧ t.comp = s.comp ∨
    k = .ac ∧ t.cache = s.tmp.cache ∧ t.comp = s.tmp.comp ∨
    (op = .rtcFree ∧ k = .rf1 ∧ ∃ r, reasonOfSel s.tmp.sel = some r ∧ lastReason r s.use = true) ∧
      t.cache = s.cache ∧ t.comp = 0 := by
  cases h with
  | committed _ hk => exact .inr (.inl ⟨hk, rfl, rfl⟩)
  | tornDown r hop hk hr hu => exact .inr (.inr ⟨⟨hop, hk, r, hr, hu⟩, rfl, rfl⟩)
  | _ => exact .inl ⟨rfl, rfl⟩

/-- What a step that is no block reset does to the deadline. -/
theorem step_deadline {s t : State} (ht : step s = .next t) (hreset : nextTurn s ≠ .blockReset) :
    t.cache = s.cache ∧ t.comp = s.comp ∨
    (nextTurn s = .frontEnd ∧ ∃ op, s.fe = .command op .ac) ∧
      t.cache = s.tmp.cache ∧ t.comp = s.tmp.comp ∨
    isTeardown (nextTurn s) s = true ∧ t.cache = s.cache ∧ t.comp = 0 := by
  rcases step_kept_or_command ht hreset with kept | ⟨hn, op, k, hfe, hm⟩
  · exact .inl ⟨kept.cache, kept.comp⟩
  · rcases hm.deadline with ⟨hcache, hcomp⟩ | ⟨rfl, hcache, hcomp⟩ | ⟨⟨rfl, rfl, hlast⟩, hcache, hcomp⟩
    · exact .inl ⟨by simpa using hcache, by simpa using hcomp⟩
    · exact .inr (.inl ⟨⟨hn, op, hfe⟩, by simpa using hcache, by simpa using hcomp⟩)
    · exact .inr (.inr ⟨(isTeardown_iff _ _).2 ⟨hn, hfe, by simpa using hlast⟩,
        by simpa using hcache, hcomp⟩)

/-- Settles O35, from the three cases of `step_deadline`. -/
theorem onlyTheArmWritesTheDeadline : Obligations.OnlyTheArmWritesTheDeadline := by
  intro s t ht hreset
  rcases step_deadline ht hreset with ⟨hcache, hcomp⟩ | ⟨⟨hn, op, hfe⟩, hcache, hcomp⟩ |
    ⟨htear, hcache, hcomp⟩
  · exact ⟨fun h => absurd hcache h, fun h => absurd hcomp h⟩
  · exact ⟨fun _ => ⟨hn, op, hfe, hcache, hcomp⟩, fun _ => ⟨hn, .inl ⟨op, hfe⟩⟩⟩
  · obtain ⟨hn, hfe, _⟩ := (isTeardown_iff _ _).1 htear
    exact ⟨fun h => absurd hcache h, fun _ => ⟨hn, .inr ⟨hfe, hcomp⟩⟩⟩

/-- In a consistent state AC is a commit: it moves the prepared arm into CACHE and COMP (R132). -/
theorem CommandMove.commits {op : Op} {s t : State} (h : CommandMove op .ac s t)
    (hm : Micro.ac ∈ microSteps op) : t.cache = s.tmp.cache ∧ t.comp = s.tmp.comp := by
  cases h with
  | committed => exact ⟨rfl, rfl⟩
  | pass h => simp [hm] at h
  | raised _ _ hk => exact absurd hk (not_or.2 ⟨ne_firstMicro op (by decide), by decide⟩)
  | blocked _ _ hop | unblocked _ hop => subst hop; exact absurd hm (by decide)
  | joined _ _ hop | started _ _ hop => simp at hop
  | responded _ _ hk | counted _ _ _ _ hk | sampled _ _ _ _ hk => exact absurd rfl hk.2
  | _ => contradiction

theorem step_commit_ties {s t : State} {op : Op} (hs : Consistent s) (ht : step s = .next t)
    (hn : nextTurn s = .frontEnd) (hfe : s.fe = .command op .ac) :
    t.cache.setWidth 24 = t.comp := by
  cases step_move ht with
  | commanded op' k _ _ _ hfe' hm =>
    rw [hfe] at hfe'
    injection hfe' with hop hk
    subst hop hk
    obtain ⟨hcache, hcomp⟩ := hm.commits (hs.placed hfe).named
    rw [hcache, hcomp, spendTurn_tmp]
    exact hs.tied op hfe
  | idled _ _ h | illegal _ _ h | latched _ _ _ h => rw [hfe] at h; cases h
  | reset h | ticked h | handled h | env _ _ h => rw [hn] at h; cases h

/-- Settles O44: AC ties by `Consistent.tied`, and any other step keeps both registers. -/
theorem deadlineStaysTiedToCompare : Obligations.DeadlineStaysTiedToCompare := by
  refine fun s t hs ht => ⟨fun hn op _ hfe => step_commit_ties hs ht hn hfe, fun htied hno => ?_⟩
  by_cases hreset : nextTurn s = .blockReset
  · rw [step, hreset] at ht
    injection ht with ht
    subst ht
    rfl
  · rcases step_deadline ht hreset with ⟨hcache, hcomp⟩ | ⟨⟨hn, op, hfe⟩, _⟩ | ⟨htear, _⟩
    · rw [hcache, hcomp, htied]
    · exact step_commit_ties hs ht hn hfe
    · exact absurd htear (by simp [hno])

/-! ### TBASE, RESP, USE and PMODE (R22, R33, R34, R36) -/

theorem CommandMove.tbase_written {op : Op} {k : Micro} {s t : State} (h : CommandMove op k s t)
    (hne : t.tbase ≠ s.tbase) : op = .rtcWriteWall ∧ k = .ww2 ∧ t.fe = .idle := by
  cases h with
  | wrote hop hk => exact ⟨hop, hk, rfl⟩
  | _ => exact absurd rfl hne

theorem CommandMove.resp_written {op : Op} {k : Micro} {s t : State} (h : CommandMove op k s t)
    (hne : t.resp ≠ s.resp) : hasResult op = true ∧ t.fe = .idle := by
  cases h with
  | responded _ hop => exact ⟨hop, rfl⟩
  | refusedSleep hop => exact ⟨hop ▸ rfl, rfl⟩
  | _ => exact absurd rfl hne

theorem CommandMove.use_written {op : Op} {k : Micro} {s t : State} (h : CommandMove op k s t)
    (hne : t.use ≠ s.use) :
    op = .rtcInit ∧ k = .ri1 ∨ op = .rtcFree ∧ k = .rf1 ∨ op = .tickerInit ∧ k = .ti1 := by
  cases h with
  | joined _ _ hop | started _ _ hop =>
    rcases hop with ⟨hop, hk, _⟩ | ⟨hop, hk, _⟩
    · exact .inl ⟨hop, hk⟩
    · exact .inr (.inr ⟨hop, hk⟩)
  | left _ hop hk | tornDown _ hop hk => exact .inr (.inl ⟨hop, hk⟩)
  | _ => exact absurd rfl hne

theorem CommandMove.pmode_written {op : Op} {k : Micro} {s t : State} (h : CommandMove op k s t)
    (hne : t.pmode ≠ s.pmode) :
    (op = .sleepEnter ∨ op = .tickerSleepUntil) ∧
      (k = .slp1 ∧ t.fe = .command op .slp2 ∨ k = .slp2 ∧ t.pmode = .em0) := by
  cases h with
  | asleep hk _ hop => exact ⟨hop, .inl ⟨hk, rfl⟩⟩
  | woken _ hk _ hop => exact ⟨hop.imp And.left And.left, .inr ⟨hk, rfl⟩⟩
  | _ => exact absurd rfl hne

/-- Settles O36. -/
theorem onlyWriteWallWritesTbase : Obligations.OnlyWriteWallWritesTbase := by
  intro s t ht hreset hne
  rcases step_kept_or_command ht hreset with kept | ⟨hn, op, k, hfe, hm⟩
  · exact absurd kept.tbase hne
  · obtain ⟨rfl, rfl, hidle⟩ := hm.tbase_written (by simpa using hne)
    exact ⟨hn, hfe, hidle⟩

/-- Settles O37. -/
theorem respChangesOnlyOnCompletion : Obligations.RespChangesOnlyOnCompletion := by
  intro s t ht hreset hne
  rcases step_kept_or_command ht hreset with kept | ⟨hn, op, k, hfe, hm⟩
  · exact absurd kept.resp hne
  · obtain ⟨hresult, hidle⟩ := hm.resp_written (by simpa using hne)
    exact ⟨hn, hidle, op, k, hfe, hresult⟩

/-- Settles O38. -/
theorem useAndPowerModeWriters : Obligations.UseAndPowerModeWriters := by
  intro s t ht hreset
  rcases step_kept_or_command ht hreset with kept | ⟨hn, op, k, hfe, hm⟩
  · exact ⟨fun h => absurd kept.use h, fun h => absurd kept.pmode h⟩
  · refine ⟨fun hne => ⟨hn, ?_⟩, fun hne => ⟨hn, op, ?_⟩⟩
    · rcases hm.use_written (by simpa using hne) with ⟨rfl, rfl⟩ | ⟨rfl, rfl⟩ | ⟨rfl, rfl⟩
      · exact .inl hfe
      · exact .inr (.inl hfe)
      · exact .inr (.inr hfe)
    · obtain ⟨hop, ⟨rfl, hfe'⟩ | ⟨rfl, hp⟩⟩ := hm.pmode_written (by simpa using hne)
      · exact ⟨hop, .inl ⟨hfe, hfe'⟩⟩
      · exact ⟨hop, .inr ⟨hfe, hp⟩⟩

end Sys2Proof.Machine
end

section
/-! The memory rules of single steps (R52, R54): a partial port access is refused, and a read command
writes nothing but its response and the front-end's own fields. -/

namespace Sys2Proof.Machine

/-- Settles O30. -/
theorem partialPortAccessIsRefused : Obligations.PartialPortAccessIsRefused := by
  intro s reg hf hturn
  rw [step, hturn]
  exact unlessHalted_running (by simpa using hf)

/-- What a read command may write: RESP, FE and TMP (R54). -/
def RespondFrame (s t : State) : Prop := t = { s with resp := t.resp, fe := t.fe, tmp := t.tmp }

theorem respondFrame_snapFirst (second next : FrontEndPtr) (s : State) :
    RespondFrame s (snapFirst second next s) := by
  rcases snapFirst_cases second next s with ⟨_, he⟩ | ⟨_, he⟩ <;> rw [he] <;> rfl

/-- A running check that does not fault leaves the frame of the step it guards (R110). -/
theorem RespondFrame.needRunning {s k : State} (h : RespondFrame s k)
    (hf : (needRunning s k).fault = none) : RespondFrame s (needRunning s k) := by
  rcases needRunning_cases s k with ⟨_, he⟩ | ⟨_, he⟩
  · rwa [he]
  · simp [he] at hf

theorem RespondFrame.needTicker {s k : State} (h : RespondFrame s k)
    (hf : (needTicker s k).fault = none) : RespondFrame s (needTicker s k) := by
  rcases needTicker_cases s k with ⟨_, he⟩ | ⟨_, he⟩
  · rwa [he]
  · simp [he] at hf

/-- A command whose micro-steps keep the frame keeps it in every state: the decode step writes TMP and
FE (R76), and where the command has no enabled step nothing moves. -/
theorem respondFrame_commandStep {i : Instr} {s t : State} {body : Micro → State}
    (hbody : ∀ k, (body k).fault = none → RespondFrame s (body k))
    (ht : commandStep i s body = .next t) (hf : t.fault = none) : RespondFrame s t := by
  obtain ⟨_, ⟨_, rfl⟩ | ⟨_, rfl⟩ | ⟨_, _, _, _, rfl⟩ | ⟨k, _, rfl⟩⟩ := commandStep_eq_next.1 ht
  · rfl
  · rfl
  · rfl
  · exact hbody k hf

/-- Settles O19, command by command: the first micro-step is guarded by its running check, the others
sample or respond. -/
theorem readCommandsOnlyRespond : Obligations.ReadCommandsOnlyRespond := by
  intro i s t hi ht hf
  simp only [List.mem_cons, List.not_mem_nil, or_false] at hi
  rcases hi with rfl | rfl | rfl | rfl | rfl | rfl <;>
    refine respondFrame_commandStep (fun k => ?_) ht hf
  · cases k with -- RTC_READ_OVF
    | ro1 => exact RespondFrame.needRunning rfl
    | _ => exact fun _ => rfl
  · cases k with -- RTC_READ_EXT
    | sn1 => exact (respondFrame_snapFirst _ _ s).needRunning
    | _ => exact fun _ => rfl
  · cases k with -- RTC_READ_WALL
    | sn1 => exact (respondFrame_snapFirst _ _ s).needRunning
    | _ => exact fun _ => rfl
  · cases k with -- TICKER_READ
    | sn1 => exact (respondFrame_snapFirst _ _ s).needTicker
    | _ => exact fun _ => rfl
  · cases k with -- TICKER_GET_OVF_HI
    | go1 => exact RespondFrame.needTicker rfl
    | _ => exact fun _ => rfl
  · cases k with -- TICKER_GET_COMPARE
    | gc1 => exact RespondFrame.needTicker rfl
    | _ => exact fun _ => rfl

end Sys2Proof.Machine
end

section
/-! Turns of a given schedule, one lemma for each kind of turn, and runs in which only quiet turns fall
between the front-end's (R55, R58). -/

namespace Sys2Proof.Machine

theorem runTurns_cons {tn : Turn} {ts : List Turn} {s u : State} (h : afterTurn tn s = .next u) :
    runTurns (tn :: ts) s = runTurns ts u := by
  rw [runTurns, h]

theorem afterTurn_tick {s : State} (hf : s.fault = none) :
    afterTurn .tick s = .next (tickStep { s with agenda := [] }) :=
  unlessHalted_running (s := { s with agenda := [] }) hf

theorem afterTurn_issue {w : Word} {s : State} (hf : s.fault = none) (hfe : s.fe = .idle) :
    afterTurn (.env (.issue w)) s = .next { s with cmd := w, fe := .decode, agenda := [] } :=
  (unlessHalted_running (s := { s with agenda := [] }) hf).trans
    (congrArg Host.Outcome.next (if_pos hfe))

theorem afterTurn_frontEnd {s : State} (hf : s.fault = none) :
    afterTurn .frontEnd s = frontEndStep { s with agenda := [] } :=
  unlessHalted_running (s := { s with agenda := [] }) hf

theorem afterTurn_idle {s : State} (hf : s.fault = none) (hfe : s.fe = .idle) :
    afterTurn .frontEnd s = .next { s with agenda := [] } := by
  simp [afterTurn_frontEnd hf, frontEndStep, hfe]

theorem afterTurn_decode {i : Instr} {s : State} (hf : s.fault = none) (hfe : s.fe = .decode)
    (hd : decode s.cmd = some i) :
    afterTurn .frontEnd s = .next (latch i { s with agenda := [] }) := by
  rw [afterTurn_frontEnd hf, ← exec_decode (s := { s with agenda := [] }) hf hfe]
  simp [frontEndStep, currentInstr, hfe, hd]

theorem afterTurn_command {op : Op} {k : Micro} {s : State} (hf : s.fault = none)
    (hfe : s.fe = .command op k) :
    afterTurn .frontEnd s = exec (instrOf op s.tmp.sel) { s with agenda := [] } :=
  (afterTurn_frontEnd hf).trans (frontEndStep_command (s := { s with agenda := [] }) hfe)

/-- What the Handler and Env's quiet steps leave alone, as a command in progress sees it: its own
registers, the counter and the corrected count (R43, R58). IF, IEN, OVF and Env's inputs may move. -/
structure QuietKept (s t : State) : Prop where
  cmd : t.cmd = s.cmd
  opa : t.opa = s.opa
  opb : t.opb = s.opb
  resp : t.resp = s.resp
  fe : t.fe = s.fe
  tmp : t.tmp = s.tmp
  cnt : t.cnt = s.cnt
  tbase : t.tbase = s.tbase
  use : t.use = s.use
  blk : t.blk = s.blk
  params : t.params = s.params
  fault : t.fault = s.fault
  corrected : ovfc t = ovfc s

theorem quietKept_handlerStep (s : State) : QuietKept s (handlerStep s) := by
  have corrected := ovfc_handlerStep s
  rw [handlerStep_frame] at corrected ⊢
  exact ⟨rfl, rfl, rfl, rfl, rfl, rfl, rfl, rfl, rfl, rfl, rfl, rfl, corrected⟩

/-- A quiet turn of another agent always passes, and keeps what the command in progress sees. -/
theorem afterTurn_quiet {tn : Turn} {s : State} (hf : s.fault = none) (hq : isQuiet tn = true)
    (hn : tn ≠ .frontEnd) : ∃ t, afterTurn tn s = .next t ∧ QuietKept s t := by
  have run {k} : unlessHalted { s with agenda := [] } k = k := unlessHalted_running hf
  cases tn with
  | tick | blockReset => cases hq
  | frontEnd => exact absurd rfl hn
  | handler =>
    have kept := quietKept_handlerStep { s with agenda := [] }
    exact ⟨_, run, { kept with }⟩
  | env e =>
    cases e with
    | writeOpa | writeOpb | issue | partialAccess => cases hq
    | readResp | mask | unmask | raiseWake | saveHook | restoreHook =>
      exact ⟨_, run, by constructor <;> rfl⟩

/-- A property that counts down on the front-end's turns and survives the other quiet ones reaches 0 on
every quiet schedule with enough front-end turns. -/
theorem runTurns_quiet {P : Nat → State → Prop} (running : ∀ {n s}, P n s → s.fault = none)
    (kept : ∀ {n s t}, P n s → QuietKept s t → P n t)
    (counts : ∀ {n s}, P n s → ∃ m t, afterTurn .frontEnd s = .next t ∧ m ≤ n - 1 ∧ P m t)
    (ts : List Turn) : ∀ {n s}, P n s → ts.all isQuiet = true → n ≤ frontEndTurns ts →
      ∃ t, runTurns ts s = .next t ∧ P 0 t := by
  induction ts with
  | nil =>
    intro n s hs _ hn
    obtain rfl : n = 0 := Nat.le_zero.1 hn
    exact ⟨s, rfl, hs⟩
  | cons tn ts ih =>
    intro n s hs hq hn
    obtain ⟨hqt, hqs⟩ := Bool.and_eq_true_iff.1 hq
    by_cases htn : tn = .frontEnd
    · subst htn
      obtain ⟨m, u, hu, hm, hPu⟩ := counts hs
      have enough : m ≤ frontEndTurns ts := by
        simp only [frontEndTurns, List.count_cons_self] at hn ⊢
        omega
      rw [runTurns_cons hu]
      exact ih hPu hqs enough
    · obtain ⟨u, hu, hk⟩ := afterTurn_quiet (running hs) hqt htn
      have enough : n ≤ frontEndTurns ts := by
        rwa [frontEndTurns, List.count_cons_of_ne htn] at hn
      rw [runTurns_cons hu]
      exact ih (kept hs hk) hqs enough

end Sys2Proof.Machine
end

section
/-! The two commands that answer the ExtendedTime (R115, R135): as a whole among quiet turns (R58), and
with a wrap between the two samples (R59, R205). -/

namespace Sys2Proof.Machine

/-- ExtendedTime as a sum: the low 8 bits of the count over the 24-bit counter (R12). -/
theorem ext32_eq_ofNat (o : Word) (c : Count) :
    ext32 o c = BitVec.ofNat 32 (o.toNat % 256 * 2 ^ 24 + c.toNat) := by
  have low : c.toNat < 2 ^ 24 := c.isLt
  have shifted : (o.toNat % 256) <<< 24 % 2 ^ 32 = (o.toNat % 256) <<< 24 :=
    Nat.mod_eq_of_lt (by rw [Nat.shiftLeft_eq]; omega)
  have counter : c.toNat % 2 ^ 32 = c.toNat := Nat.mod_eq_of_lt (by omega)
  have sum : (o.toNat % 256 * 2 ^ 24 + c.toNat) % 2 ^ 32 = o.toNat % 256 * 2 ^ 24 + c.toNat :=
    Nat.mod_eq_of_lt (by omega)
  apply BitVec.eq_of_toNat_eq
  calc (ext32 o c).toNat
      = (o.toNat % 256) <<< 24 % 2 ^ 32 ||| c.toNat % 2 ^ 32 := by
        rw [ext32, BitVec.toNat_or, BitVec.toNat_shiftLeft, BitVec.toNat_umod,
          BitVec.toNat_setWidth, BitVec.toNat_ofNat]
    _ = o.toNat % 256 * 2 ^ 24 + c.toNat := by
        rw [shifted, counter, ← Nat.shiftLeft_add_eq_or_of_lt low, Nat.shiftLeft_eq]
    _ = _ := by rw [BitVec.toNat_ofNat, sum]

/-- One wrap of the count is 2^24 ticks of ExtendedTime (R12). -/
theorem ext32_add_one (o : Word) (c : Count) : ext32 (o + 1) c = ext32 o c + 0x01000000#32 := by
  have low_bits : (o + 1).toNat % 256 = (o.toNat % 256 + 1) % 256 := by
    rw [BitVec.toNat_add, show (1 : Word).toNat = 1 from rfl]
    omega
  rw [ext32_eq_ofNat, ext32_eq_ofNat, low_bits, ← BitVec.ofNat_add]
  apply BitVec.eq_of_toNat_eq
  rw [BitVec.toNat_ofNat, BitVec.toNat_ofNat]
  omega

/-- The commands that answer ExtendedTime, each with its last micro-step (R115, R135). -/
inductive TimeRead : Op → Micro → Prop where
  | ext : TimeRead .rtcReadExt .rx2
  | ticker : TimeRead .tickerRead .tr2

section
variable {op : Op} {last : Micro} {s : State}

theorem TimeRead.exec_sn1 (h : TimeRead op last) (hf : s.fault = none)
    (hfe : s.fe = .command op .sn1) (hr : ready op s.use = true) (sel : Selector) :
    exec (instrOf op sel) s = .next (snapFirst (.command op .sn2) (.command op last) s) := by
  cases h with
  | ext =>
    have hu : useEmpty s.use = false := by simpa [ready, needsRunning, needsTicker] using hr
    exact (commandStep_atStep hf hfe rfl).trans (congrArg _ (needRunning_running hu))
  | ticker =>
    have hu : s.use.lpt = true := by simpa [ready, needsRunning, needsTicker] using hr
    exact (commandStep_atStep hf hfe rfl).trans (congrArg _ (needTicker_running hu))

theorem TimeRead.exec_sn2 (h : TimeRead op last) (hf : s.fault = none)
    (hfe : s.fe = .command op .sn2) (sel : Selector) :
    exec (instrOf op sel) s = .next (sampleTime s.tmp.osamp (.command op last) s) := by
  cases h <;> exact commandStep_atStep hf hfe rfl

theorem TimeRead.exec_last (h : TimeRead op last) (hf : s.fault = none)
    (hfe : s.fe = .command op last) (sel : Selector) :
    exec (instrOf op sel) s = .next (respond s.tmp.now s) := by
  cases h <;> exact commandStep_atStep hf hfe rfl

end

/-! ### A whole time read among quiet turns (R58) -/

/-- How far a read of count `o` and counter `c` has come, by the most front-end turns it still needs. -/
inductive ReadPhase (op : Op) (last : Micro) (o : Word) (c : Count) (s : State) : Nat → Prop where
  | issued (i : Instr) (hfe : s.fe = .decode) (hd : decode s.cmd = some i) (hi : opOf i = op) :
      ReadPhase op last o c s 4
  | unsampled (hfe : s.fe = .command op .sn1) : ReadPhase op last o c s 3
  | counted (hfe : s.fe = .command op .sn2) (ho : s.tmp.osamp = o) : ReadPhase op last o c s 2
  | sampled (hfe : s.fe = .command op last) (hnow : s.tmp.now = ext32 o c) :
      ReadPhase op last o c s 1
  | done (hfe : s.fe = .idle) (hresp : s.resp = ext32 o c) : ReadPhase op last o c s 0

/-- The invariant of a time read: the clock still shows `o` and `c`, and the read has come to the phase
that needs `n` more front-end turns. -/
structure Reading (op : Op) (last : Micro) (o : Word) (c : Count) (n : Nat) (s : State) : Prop where
  running : s.fault = none
  ready : ready op s.use = true
  corrected : ovfc s = o
  counter : s.cnt = c
  phase : ReadPhase op last o c s n

section
variable {op : Op} {last : Micro} {o : Word} {c : Count} {n : Nat} {s t : State}

theorem ReadPhase.of_quietKept (h : ReadPhase op last o c s n) (hk : QuietKept s t) :
    ReadPhase op last o c t n := by
  cases h with
  | issued i hfe hd hi => exact .issued i (hk.fe.trans hfe) (hk.cmd ▸ hd) hi
  | unsampled hfe => exact .unsampled (hk.fe.trans hfe)
  | counted hfe ho => exact .counted (hk.fe.trans hfe) (hk.tmp ▸ ho)
  | sampled hfe hnow => exact .sampled (hk.fe.trans hfe) (hk.tmp ▸ hnow)
  | done hfe hresp => exact .done (hk.fe.trans hfe) (hk.resp.trans hresp)

theorem Reading.of_quietKept (h : Reading op last o c n s) (hk : QuietKept s t) :
    Reading op last o c n t :=
  ⟨hk.fault.trans h.running, hk.use ▸ h.ready, hk.corrected.trans h.corrected,
    hk.cnt.trans h.counter, h.phase.of_quietKept hk⟩

/-- Each front-end turn brings the read a phase on, or two where SN1 samples the whole time (R114). -/
theorem Reading.frontEnd (hop : TimeRead op last) (h : Reading op last o c n s) :
    ∃ m t, afterTurn .frontEnd s = .next t ∧ m ≤ n - 1 ∧ Reading op last o c m t := by
  obtain ⟨hf, hready, ho, hc, hphase⟩ := h
  cases hphase with
  | issued i hfe hd hi =>
    have first : firstMicro op = .sn1 := by cases hop <;> rfl
    exact ⟨3, _, afterTurn_decode hf hfe hd, le_rfl, hf, hready, ho, hc,
      .unsampled (by rw [latch_fe, hi, first])⟩
  | unsampled hfe =>
    have turn := (afterTurn_command hf hfe).trans
      (hop.exec_sn1 (s := { s with agenda := [] }) hf hfe hready _)
    rcases snapFirst_cases (.command op .sn2) (.command op last) { s with agenda := [] } with
      ⟨_, he⟩ | ⟨_, he⟩ <;> rw [he] at turn
    · exact ⟨1, _, turn, by omega, hf, hready, ho, hc, .sampled rfl (congrArg₂ ext32 ho hc)⟩
    · exact ⟨2, _, turn, le_rfl, hf, hready, ho, hc, .counted rfl ho⟩
  | counted hfe hsamp =>
    exact ⟨1, _, (afterTurn_command hf hfe).trans
        (hop.exec_sn2 (s := { s with agenda := [] }) hf hfe _),
      le_rfl, hf, hready, ho, hc, .sampled rfl (congrArg₂ ext32 hsamp hc)⟩
  | sampled hfe hnow =>
    exact ⟨0, _, (afterTurn_command hf hfe).trans
        (hop.exec_last (s := { s with agenda := [] }) hf hfe _),
      le_rfl, hf, hready, ho, hc, .done rfl hnow⟩
  | done hfe hresp =>
    exact ⟨0, _, afterTurn_idle hf hfe, le_rfl, hf, hready, ho, hc, .done hfe hresp⟩

end

/-- Settles O46: `Reading` holds once the word is issued, and every quiet schedule runs it down to its
last phase. -/
theorem timeReadHidesTheHandler : Obligations.TimeReadHidesTheHandler := by
  intro i ts s hf hfe hi hq hn
  obtain ⟨last, hop, hready, hd⟩ : ∃ last, TimeRead (opOf i) last ∧ ready (opOf i) s.use = true ∧
      decode (encode i) = some i := by
    rcases hi with ⟨rfl, hu⟩ | ⟨rfl, hu⟩
    · exact ⟨_, .ext, by simp [opOf, ready, needsRunning, needsTicker, hu], by decide⟩
    · exact ⟨_, .ticker, by simp [opOf, ready, needsRunning, needsTicker, hu], by decide⟩
  have start : Reading (opOf i) last (ovfc s) s.cnt 4
      { s with cmd := encode i, fe := .decode, agenda := [] } :=
    ⟨hf, hready, rfl, rfl, .issued i rfl hd rfl⟩
  rw [runTurns_cons (afterTurn_issue hf hfe)]
  obtain ⟨t, ht, hend⟩ :=
    runTurns_quiet (P := Reading (opOf i) last (ovfc s) s.cnt) Reading.running
      Reading.of_quietKept (Reading.frontEnd hop) ts start hq hn
  cases hend.phase with
  | done hidle hresp => exact ⟨t, ht, hidle, hend.running, hresp.trans (ext32_eq_ofNat _ _)⟩

/-! ### A wrap between the two samples (R59, R205) -/

section
variable {op : Op} {last : Micro} {s : State}

/-- In the two-sample form SN1 samples the corrected count alone (R114). -/
theorem TimeRead.afterTurn_sn1 (h : TimeRead op last) (hf : s.fault = none)
    (hfe : s.fe = .command op .sn1) (hr : ready op s.use = true)
    (htwo : s.params.extReadAtomic = false) :
    afterTurn .frontEnd s = .next
      { s with tmp := { s.tmp with osamp := ovfc s }, fe := .command op .sn2, agenda := [] } := by
  have turn := (afterTurn_command hf hfe).trans
    (h.exec_sn1 (s := { s with agenda := [] }) hf hfe hr _)
  rwa [snapFirst, if_neg (Bool.eq_false_iff.1 htwo)] at turn

/-- From SN2 on two front-end turns answer the sampled count joined to the counter of SN2 (R114). -/
theorem TimeRead.runTurns_sn2 (h : TimeRead op last) (hf : s.fault = none)
    (hfe : s.fe = .command op .sn2) :
    ∃ t, runTurns [.frontEnd, .frontEnd] s = .next t ∧ t.fe = .idle ∧
      t.resp = ext32 s.tmp.osamp s.cnt ∧ t.cnt = s.cnt ∧ ovfc t = ovfc s := by
  have sn2 := (afterTurn_command hf hfe).trans (h.exec_sn2 (s := { s with agenda := [] }) hf hfe _)
  rw [runTurns_cons sn2]
  have last_turn {u : State} (hu : u.fault = none) (hufe : u.fe = .command op last) :
      runTurns [.frontEnd] u = .next (respond u.tmp.now { u with agenda := [] }) :=
    runTurns_cons ((afterTurn_command hu hufe).trans
      (h.exec_last (s := { u with agenda := [] }) hu hufe _))
  exact ⟨_, last_turn hf rfl, rfl, rfl, rfl, rfl⟩

end

/-- The tick at 0xFFFFFF with no overflow pending: the counter becomes 0 and the corrected count goes
up by one (R165, R167). -/
theorem afterTurn_wrap {s : State} (hf : s.fault = none) (hu : useEmpty s.use = false)
    (hc : s.cnt = 0xFFFFFF#24) (hof : s.flags.of = false) :
    ∃ t, afterTurn .tick s = .next t ∧ t.fault = none ∧ t.fe = s.fe ∧ t.tmp = s.tmp ∧ t.cnt = 0 ∧
      ovfc t = ovfc s + 1 := by
  have wraps : nextCount { s with agenda := [] } = 0 := by rw [nextCount, hc]; decide
  rcases tickStep_cases { s with agenda := [] } with ⟨h, _⟩ | ⟨_, h, _⟩ | ⟨_, _, he⟩
  · exact absurd (hu.symm.trans h) (by decide)
  · simp [losesOverflow, hof] at h
  · refine ⟨_, (afterTurn_tick hf).trans (congrArg _ he), hf, rfl, rfl, wraps, ?_⟩
    simp [ovfc_eq, tickFlags, wraps, hof]

/-- Settles O48: SN1 keeps the count of before the wrap, SN2 joins it to the counter of after it. -/
theorem wrapBetweenSamplesReadsLow : Obligations.WrapBetweenSamplesReadsLow := by
  rintro s ⟨hf, hfe⟩ hu htwo hc hof
  have hready : ready .rtcReadExt s.use = true := by simp [ready, needsRunning, needsTicker, hu]
  have sn1 := TimeRead.ext.afterTurn_sn1 hf hfe hready htwo
  obtain ⟨u, tick, huf, hufe, hutmp, hucnt, hovfc⟩ := afterTurn_wrap
    (s := { s with
      tmp := { s.tmp with osamp := ovfc s }, fe := .command .rtcReadExt .sn2, agenda := [] })
    hf hu hc hof
  obtain ⟨t, run, hidle, hresp, htcnt, htovfc⟩ := TimeRead.ext.runTurns_sn2 huf hufe
  refine ⟨t, by rw [runTurns_cons sn1, runTurns_cons tick, run], hidle, ?_⟩
  have true_time : ext32 (ovfc t) t.cnt = ext32 (ovfc s) 0 + 0x01000000#32 := by
    rw [htovfc, hovfc, htcnt, hucnt, ext32_add_one]
    rfl
  rw [true_time, BitVec.add_sub_cancel, hresp, hutmp, hucnt]

end Sys2Proof.Machine
end

section
/-! Decode and encode against the fields of a word (R70, R71, R75 to R77): a word is its three fields, and
the decoder answers a command exactly on that command's fields. -/

namespace Sys2Proof

open Laws

/-! ### The fields of a word (R70) -/

theorem opcField_toNat (w : Word) : (opcField w).toNat = w.toNat % 256 := by
  simp [opcField]

theorem selField_toNat (w : Word) : (selField w).toNat = w.toNat / 256 % 16 := by
  simp [selField, Nat.shiftRight_eq_div_pow]

theorem rsvField_toNat (w : Word) : (rsvField w).toNat = w.toNat / 4096 := by
  have bound := w.isLt
  simp [rsvField, Nat.shiftRight_eq_div_pow]
  omega

theorem rsvField_eq_zero_iff (w : Word) : rsvField w = 0 ↔ w >>> 12 = 0 := by
  simp [← BitVec.toNat_inj, rsvField_toNat, Nat.shiftRight_eq_div_pow]

theorem word_ext {w v : Word} (hr : rsvField w = rsvField v) (ho : opcField w = opcField v)
    (hs : selField w = selField v) : w = v := by
  rw [← BitVec.toNat_inj] at *
  rw [rsvField_toNat, rsvField_toNat] at hr
  rw [opcField_toNat, opcField_toNat] at ho
  rw [selField_toNat, selField_toNat] at hs
  omega

theorem encodedFields : ∀ i : Instr, EncodedFields.Statement i
  | .sleepBlock sel => EncodedFields.sleepBlock sel
  | .sleepUnblock sel => EncodedFields.sleepUnblock sel
  | .sleepEnter => EncodedFields.sleepEnter
  | .rtcInit sel => EncodedFields.rtcInit sel
  | .rtcFree sel => EncodedFields.rtcFree sel
  | .rtcReadOvf => EncodedFields.rtcReadOvf
  | .rtcReadExt => EncodedFields.rtcReadExt
  | .rtcReadWall => EncodedFields.rtcReadWall
  | .rtcWriteWall => EncodedFields.rtcWriteWall
  | .tickerInit => EncodedFields.tickerInit
  | .tickerRead => EncodedFields.tickerRead
  | .tickerSetInt => EncodedFields.tickerSetInt
  | .tickerGetOvfHi => EncodedFields.tickerGetOvfHi
  | .tickerGetCompare => EncodedFields.tickerGetCompare
  | .tickerSleepUntil => EncodedFields.tickerSleepUntil

theorem eq_encode_iff (w : Word) (i : Instr) :
    w = encode i ↔ rsvField w = 0 ∧ opcField w = i.opc ∧ selField w = i.selector := by
  obtain ⟨hr, ho, hs, -⟩ := encodedFields i
  refine ⟨?_, fun ⟨hr', ho', hs'⟩ => ?_⟩
  · rintro rfl
    exact ⟨hr, ho, hs⟩
  · exact word_ext (hr'.trans hr.symm) (ho'.trans ho.symm) (hs'.trans hs.symm)

/-! ### The opcode map (R75) -/

/-- Only a format CS command has a selector (R71). -/
theorem selector_eq_zero {i : Instr} (h : i.format ≠ .cs) : i.selector = 0 := by
  revert h
  cases i <;> simp [Instr.format, Instr.selector]

/-- The rows whose format is CS (R75). -/
theorem format_eq_cs_iff (i : Instr) : i.format = .cs ↔ i.opc.toNat ∈ [0x01, 0x02, 0x10, 0x11] := by
  cases i <;> simp [Instr.format, Instr.opc]

theorem opcodeMap_opc (i : Instr) : opcodeMap i.opc i.selector = some i := by
  cases i <;> rfl

theorem opcodeMap_eq_some {opc : BitVec 8} {sel : Selector} {i : Instr}
    (h : opcodeMap opc sel = some i) : opc = i.opc ∧ (i.format = .cs → sel = i.selector) := by
  unfold opcodeMap at h
  split at h <;> cases h <;> simp [Instr.opc, Instr.format, Instr.selector]

/-- The OPCs of no row of the map (R77). -/
theorem opcodeMap_eq_none_iff (opc : BitVec 8) (sel : Selector) : opcodeMap opc sel = none ↔
    opc.toNat = 0 ∨ (4 ≤ opc.toNat ∧ opc.toNat ≤ 0x0F) ∨ (0x16 ≤ opc.toNat ∧ opc.toNat ≤ 0x1F) ∨
      0x26 ≤ opc.toNat := by
  unfold opcodeMap
  split
  case h_16 =>
    simp only [imp_false, ← BitVec.toNat_inj, BitVec.toNat_ofNat, true_iff] at *
    omega
  all_goals simp

/-! ### The decoder (R76, R77) -/

theorem decode_of_rsvField_ne {w : Word} (h : rsvField w ≠ 0) : decode w = none := if_pos h

theorem decode_unmapped {w : Word} (h : opcodeMap (opcField w) (selField w) = none) :
    decode w = none := by
  simp [decode, h]

theorem decode_mapped {w : Word} {i : Instr} (hr : rsvField w = 0)
    (h : opcodeMap (opcField w) (selField w) = some i) :
    decode w = if i.format ≠ .cs ∧ selField w ≠ 0 then none else some i := by
  simp [decode, hr, h]

theorem decode_eq_some_iff (w : Word) (i : Instr) : decode w = some i ↔
    rsvField w = 0 ∧ opcField w = i.opc ∧ selField w = i.selector := by
  constructor
  · intro hd
    have hr : rsvField w = 0 := by
      by_contra hr
      simp [decode_of_rsvField_ne hr] at hd
    cases hmap : opcodeMap (opcField w) (selField w) with
    | none => simp [decode_unmapped hmap] at hd
    | some j =>
      obtain ⟨ho, hcs⟩ := opcodeMap_eq_some hmap
      rw [decode_mapped hr hmap] at hd
      split at hd
      case isTrue => cases hd
      case isFalse hlegal =>
        cases hd
        refine ⟨hr, ho, ?_⟩
        by_cases hf : i.format = .cs
        · exact hcs hf
        · rw [selector_eq_zero hf]
          by_contra hsel
          exact hlegal ⟨hf, hsel⟩
  · rintro ⟨hr, ho, hs⟩
    have hmap : opcodeMap (opcField w) (selField w) = some i := by rw [ho, hs, opcodeMap_opc]
    rw [decode_mapped hr hmap, hs]
    exact if_neg fun ⟨hf, hsel⟩ => hsel (selector_eq_zero hf)

theorem decode_eq_none_iff (w : Word) : decode w = none ↔
    rsvField w ≠ 0 ∨ opcodeMap (opcField w) (selField w) = none ∨
      ((opcField w).toNat ∉ [0x01, 0x02, 0x10, 0x11] ∧ selField w ≠ 0) := by
  by_cases hr : rsvField w = 0
  · cases hmap : opcodeMap (opcField w) (selField w) with
    | none => simp [decode_unmapped hmap]
    | some i =>
      rw [decode_mapped hr hmap, (opcodeMap_eq_some hmap).1, ← format_eq_cs_iff]
      simp [hr]
  · exact iff_of_true (decode_of_rsvField_ne hr) (.inl hr)

/-- Settles O1: both sides say what the three fields of the word are. -/
theorem decodeIffEncodedWord : Obligations.DecodeIffEncodedWord := fun w i =>
  (decode_eq_some_iff w i).trans (eq_encode_iff w i).symm

theorem decode_encode (i : Instr) : decode (encode i) = some i :=
  (decodeIffEncodedWord (encode i) i).mpr rfl

/-- Settles O2: the three reasons of `decode_eq_none_iff`, with the fields read as numbers. -/
theorem illegalWordsAreThoseListed : Obligations.IllegalWordsAreThoseListed := by
  intro w
  have hsel : selField w = 0 ↔ w.toNat / 256 % 16 = 0 := by
    rw [← selField_toNat]
    exact BitVec.toNat_inj.symm
  rw [decode_eq_none_iff, opcodeMap_eq_none_iff, ne_eq, ne_eq, rsvField_eq_zero_iff, hsel,
    opcField_toNat]
  simp only [or_assoc, ne_eq]

/-- Settles O3: each of the words is the encoding of its command. -/
theorem writtenOutWordsDecode : Obligations.WrittenOutWordsDecode :=
  ⟨decode_encode (.sleepBlock 2), decode_encode (.rtcInit 2), decode_encode (.rtcInit 1),
    decode_encode .tickerSetInt, decode_encode .sleepEnter⟩

end Sys2Proof
end

section
/-! The front-end's step runs the command it is at (R24, R76), and what its decode step writes. -/

namespace Sys2Proof.Machine

theorem frontEndStep_current {s : State} {i : Instr} (h : currentInstr s = some i) :
    frontEndStep s = exec i s := by
  have notIdle : s.fe ≠ .idle := fun hfe => by simp [currentInstr, hfe] at h
  simp [frontEndStep, notIdle, h]

theorem frontEndStep_illegal {s : State} (hfe : s.fe = .decode) (hd : decode s.cmd = none) :
    frontEndStep s = .next (raise .illegalCommand s.cmd s) := by
  simp [frontEndStep, currentInstr, hfe, hd]

@[simp] theorem currentInstr_spendTurn (s : State) : currentInstr (spendTurn s) = currentInstr s := by
  simp [currentInstr]

theorem step_frontEnd {s : State} (hf : s.fault = none) (hn : nextTurn s = .frontEnd) :
    step s = frontEndStep (spendTurn s) := by
  rw [step, hn]
  exact unlessHalted_running ((spendTurn_fault s).trans hf)

/-- Settles O4: in both cases `i` is the front-end's current command, which spending the turn keeps. -/
theorem stepRunsTheCommand : Obligations.StepRunsTheCommand := by
  intro s i hf hn hi
  have current : currentInstr s = some i := by
    rcases hi with ⟨hfe, hd⟩ | ⟨op, k, hfe, rfl⟩
    · simp [currentInstr, hfe, hd]
    · simp [currentInstr, hfe]
  rw [step_frontEnd hf hn, frontEndStep_current ((currentInstr_spendTurn s).trans current)]

/-- Settles O5: the placed word is CMD at FE = Decode, and the spent turn is the one placed with it. -/
theorem fetchWordRunsNext : Obligations.FetchWordRunsNext := fun s w i hf hd =>
  stepRunsTheCommand (s.withFetchWord 32 w) i hf rfl (.inl ⟨rfl, hd⟩)

/-- Settles O6: the selector latched is the word's SEL field, as the word decodes to the command. -/
theorem decodeStepLatches : Obligations.DecodeStepLatches := by
  intro s hf hfe
  refine ⟨fun i hd => ?_, frontEndStep_illegal hfe⟩
  obtain ⟨-, -, hsel⟩ := (decode_eq_some_iff s.cmd i).mp hd
  rw [exec_decode hf hfe, latch, hsel]

end Sys2Proof.Machine
end

section
/-! The sleep gate (40_sleep_gate.md): the block counts, the mode they select, and the sleep sequence. -/

namespace Sys2Proof.Machine

/-! ### Words and selectors (R70, R73) -/

/-- A command's word as a number (R70, R71). -/
theorem encode_toNat (i : Instr) : (encode i).toNat = i.selector.toNat * 256 + i.opc.toNat := by
  obtain ⟨hr, ho, hs⟩ := (eq_encode_iff (encode i) i).mp rfl
  have rsv := rsvField_toNat (encode i)
  have opc := opcField_toNat (encode i)
  have sel := selField_toNat (encode i)
  rw [hr] at rsv
  rw [ho] at opc
  rw [hs] at sel
  simp only [BitVec.toNat_zero, BitVec.ofNat_eq_ofNat] at rsv
  omega

theorem depthOfSel_eq_some_iff (sel : Selector) (d : Depth) :
    depthOfSel sel = some d ↔ sel.toNat = depthCode d := by
  revert sel
  cases d <;> decide

theorem depthOfSel_eq_none_iff (sel : Selector) :
    depthOfSel sel = none ↔ sel.toNat < 1 ∨ 4 < sel.toNat := by
  revert sel
  decide

/-! ### Block counts (R101, R102) -/

/-- Releasing a depth lowers its own count alone, by natural subtraction (R102). -/
theorem blkGet_blkRelease_toNat (b : BlockCounts) (d : Depth) :
    (blkGet (blkRelease b d) d).toNat = (blkGet b d).toNat - 1 := by
  unfold blkRelease
  split
  case isTrue h => simp [h]
  case isFalse h =>
    have positive : (1#32) ≤ blkGet b d := by bv_omega
    rw [blkGet_blkSet, if_pos rfl]
    exact BitVec.toNat_sub_of_le positive

theorem blkGet_blkRelease_of_ne (b : BlockCounts) {d e : Depth} (h : e ≠ d) :
    blkGet (blkRelease b d) e = blkGet b e := by
  unfold blkRelease
  split
  · rfl
  · rw [blkGet_blkSet, if_neg h]

theorem stepSB1_of_no_depth {sel : Selector} (s : State) (h : depthOfSel sel = none) :
    stepSB1 sel s = raise .badArgument s.cmd s := by
  simp [stepSB1, h]

theorem stepSB1_of_full {sel : Selector} {s : State} {d : Depth} (h : depthOfSel sel = some d)
    (hb : blkGet s.blk d = blkMax) :
    stepSB1 sel s = raise .blockCountOverflow (depthInfo d) s := by
  simp [stepSB1, h, hb]

theorem stepSB1_of_room {sel : Selector} {s : State} {d : Depth} (h : depthOfSel sel = some d)
    (hb : blkGet s.blk d ≠ blkMax) :
    stepSB1 sel s = { s with blk := blkSet s.blk d (blkGet s.blk d + 1), fe := .idle } := by
  simp [stepSB1, h, hb]

theorem stepSU1_of_no_depth {sel : Selector} (s : State) (h : depthOfSel sel = none) :
    stepSU1 sel s = raise .badArgument s.cmd s := by
  simp [stepSU1, h]

theorem stepSU1_of_depth {sel : Selector} (s : State) {d : Depth} (h : depthOfSel sel = some d) :
    stepSU1 sel s = { s with blk := blkRelease s.blk d, fe := .idle } := by
  simp [stepSU1, h]

/-- Settles O7: SB1's three cases, by the depth the selector names and the room left in its count. -/
theorem sleepBlockCountsOrFaults : Obligations.SleepBlockCountsOrFaults := by
  rintro sel s ⟨hf, hfe⟩
  have run : exec (.sleepBlock sel) s = .next (stepSB1 sel s) := commandStep_atStep hf hfe rfl
  rw [run]
  refine ⟨encode_toNat (.sleepBlock sel), fun hsel => ?_, fun d hd => ?_⟩
  · rw [stepSB1_of_no_depth s ((depthOfSel_eq_none_iff sel).mpr hsel)]
    rfl
  · have depth := (depthOfSel_eq_some_iff sel d).mpr hd
    refine ⟨fun full => ?_, fun room => ⟨blkSet s.blk d (blkGet s.blk d + 1), ?_, ?_, fun e he => ?_⟩⟩
    · rw [stepSB1_of_full depth full]
      rfl
    · rw [stepSB1_of_room depth room]
    · rw [blkGet_blkSet, if_pos rfl]
    · rw [blkGet_blkSet, if_neg he]

/-- Settles O8: SU1's two cases; the count's floor at 0 is `blkGet_blkRelease_toNat`. -/
theorem sleepUnblockCountsOrFaults : Obligations.SleepUnblockCountsOrFaults := by
  rintro sel s ⟨hf, hfe⟩
  have run : exec (.sleepUnblock sel) s = .next (stepSU1 sel s) := commandStep_atStep hf hfe rfl
  rw [run]
  refine ⟨encode_toNat (.sleepUnblock sel), fun hsel => ?_, fun d hd => ?_⟩
  · rw [stepSU1_of_no_depth s ((depthOfSel_eq_none_iff sel).mpr hsel)]
    rfl
  · have depth := (depthOfSel_eq_some_iff sel d).mpr hd
    exact ⟨blkRelease s.blk d, by rw [stepSU1_of_depth s depth], blkGet_blkRelease_toNat s.blk d,
      fun e he => blkGet_blkRelease_of_ne s.blk he⟩

/-! ### The selected mode (R103) -/

theorem depthCode_le_em4 (d : Depth) : depthCode d ≤ depthCode .em4 := by cases d <;> decide

theorem depthCode_minDepth (d e : Depth) :
    depthCode (minDepth d e) = min (depthCode d) (depthCode e) := by
  unfold minDepth
  split <;> omega

theorem minDepth_em4_left (d : Depth) : minDepth .em4 d = d := by cases d <;> rfl

theorem minDepth_eq_or (d e : Depth) : minDepth d e = d ∨ minDepth d e = e := ite_eq_or_eq ..

/-- The walk stops no later than at a blocked depth. -/
theorem shallowestBlocked_le {b : BlockCounts} {d : Depth} (h : blkGet b d ≠ 0) :
    depthCode (shallowestBlocked b) ≤ depthCode d := by
  cases d with
  | em1 => exact (congrArg depthCode (if_pos h)).le
  | em2 =>
    have blocked : b.em2 ≠ 0 := h
    simp only [shallowestBlocked, if_pos blocked]
    split_ifs <;> decide
  | em3 =>
    have blocked : b.em3 ≠ 0 := h
    simp only [shallowestBlocked, if_pos blocked]
    split_ifs <;> decide
  | em4 => exact depthCode_le_em4 _

/-- The walk stops at a blocked depth, or runs to EM4. -/
theorem shallowestBlocked_blocked (b : BlockCounts) :
    blkGet b (shallowestBlocked b) ≠ 0 ∨ shallowestBlocked b = .em4 := by
  unfold shallowestBlocked
  split_ifs with h1 h2 h3
  · exact .inl h1
  · exact .inl h2
  · exact .inl h3
  · exact .inr rfl

/-- Settles O9: the selected mode is the lesser of the walk's depth and the deepest available one, and a
walk that met no block ends at EM4, which leaves the deepest available mode. -/
theorem selectedModeRespectsBlocks : Obligations.SelectedModeRespectsBlocks := by
  intro deepest b
  have code : depthCode (selectMode deepest b) =
      min (depthCode (shallowestBlocked b)) (depthCode deepest) := depthCode_minDepth _ _
  refine ⟨code ▸ min_le_right _ _, fun d hd => ?_, ?_⟩
  · exact code ▸ (min_le_left _ _).trans (shallowestBlocked_le hd)
  · rcases shallowestBlocked_blocked b with blocked | em4
    · rcases minDepth_eq_or (shallowestBlocked b) deepest with h | h
      · exact .inr (by rwa [selectMode, h])
      · exact .inl h
    · exact .inl (by rw [selectMode, em4, minDepth_em4_left])

/-! ### The sleep sequence (R105) -/

theorem sleepEntry_of_wake {s : State} (asleep next : FrontEndPtr) (hw : wakeCond s = true) :
    sleepEntry asleep next s = { s with extWake := false, fe := next } := if_pos hw

theorem sleepEntry_of_lost {s : State} (asleep next : FrontEndPtr) (hw : wakeCond s = false)
    (hu : s.use ≠ ⟨false, false⟩) (hm : 2 < depthCode (selected s)) :
    sleepEntry asleep next s = raise .retentionLost (depthInfo (selected s)) s := by
  have running : useEmpty s.use = false := by simpa [← useEmpty_iff] using hu
  have lost : losesRetention (selected s) = true := decide_eq_true hm
  simp [sleepEntry, hw, running, lost]

theorem sleepEntry_of_kept {s : State} (asleep next : FrontEndPtr) (hw : wakeCond s = false)
    (hm : s.use = ⟨false, false⟩ ∨ depthCode (selected s) ≤ 2) :
    sleepEntry asleep next s =
      { s with
        tmp := { s.tmp with mode := selected s }, pmode := modeOfDepth (selected s)
        fe := asleep } := by
  have kept : useEmpty s.use = true ∨ losesRetention (selected s) = false :=
    hm.imp (useEmpty_iff s.use).mpr fun h => decide_eq_false h.not_gt
  rcases kept with h | h <;> simp [sleepEntry, hw, h]

theorem sleepExit_of_wake {s : State} (next : FrontEndPtr) (hw : wakeCond s = true) :
    sleepExit next s = { s with pmode := .em0, extWake := false, fe := next } := if_pos hw

theorem sleepExit_of_no_wake {s : State} (next : FrontEndPtr) (hw : wakeCond s = false) :
    sleepExit next s = s := by
  simp [sleepExit, hw]

/-- The commands with a sleep sequence, each with where it goes on (R104, R139). -/
inductive Sleeper : Op → FrontEndPtr → Prop where
  | enter : Sleeper .sleepEnter .idle
  | until : Sleeper .tickerSleepUntil (.command .tickerSleepUntil .su5)

section
variable {op : Op} {next : FrontEndPtr} {s : State}

theorem Sleeper.exec_slp1 (h : Sleeper op next) (hf : s.fault = none)
    (hfe : s.fe = .command op .slp1) (sel : Selector) :
    exec (instrOf op sel) s = .next (sleepEntry (.command op .slp2) next s) := by
  cases h <;> exact commandStep_atStep hf hfe rfl

theorem Sleeper.exec_slp2 (h : Sleeper op next) (hf : s.fault = none)
    (hfe : s.fe = .command op .slp2) (sel : Selector) :
    exec (instrOf op sel) s = .next (sleepExit next s) := by
  cases h <;> exact commandStep_atStep hf hfe rfl

end

/-- Settles O10: SLP1 is `sleepEntry` and SLP2 `sleepExit`, whichever command runs them; `wake` is
`wakeCond s` and `m` is `selected s`, both by definition. -/
theorem sleepSequenceSleepsAndWakes : Obligations.SleepSequenceSleepsAndWakes := by
  intro op next s hop hf wake m
  have sleeper : Sleeper op next := by
    rcases hop with ⟨rfl, rfl⟩ | ⟨rfl, rfl⟩
    · exact .enter
    · exact .until
  have slp1 (hfe : s.fe = .command op .slp1) := sleeper.exec_slp1 hf hfe s.tmp.sel
  have slp2 (hfe : s.fe = .command op .slp2) := sleeper.exec_slp2 hf hfe s.tmp.sel
  refine ⟨fun hfe hw => ?_, fun hfe hw ⟨hu, hm⟩ => ?_, fun hfe hw hm => ?_, fun hfe hw => ?_,
    fun hfe hw => ?_⟩
  · rw [slp1 hfe, sleepEntry_of_wake _ _ hw]
  · rw [slp1 hfe, sleepEntry_of_lost _ _ hw hu hm]
    rfl
  · rw [slp1 hfe, sleepEntry_of_kept _ _ hw hm]
    rfl
  · rw [slp2 hfe, sleepExit_of_wake _ hw]
  · rw [slp2 hfe, sleepExit_of_no_wake _ hw]

end Sys2Proof.Machine
end

section
/-! The RTC's lifecycle and the running checks (R110 to R112): RTC_INIT, RTC_FREE and NOT_RUNNING. -/

namespace Sys2Proof.Machine

/-! ### Use reasons (R72, R111, R112) -/

theorem reasonOfSel_eq_none_iff (sel : Selector) : reasonOfSel sel = none ↔ sel ≠ 1 ∧ sel ≠ 2 := by
  revert sel
  decide

theorem exists_reason_of_legal {sel : Selector} (h : sel = 1 ∨ sel = 2) :
    ∃ r, reasonOfSel sel = some r := by
  rcases h with rfl | rfl
  · exact ⟨.tk, rfl⟩
  · exact ⟨.lpt, rfl⟩

/-- The selector code of a use reason (R72). -/
theorem eq_of_reasonOfSel {sel : Selector} {r : Reason} (h : reasonOfSel sel = some r) :
    r = .tk ∧ sel = 1 ∨ r = .lpt ∧ sel = 2 := by
  revert sel
  cases r <;> decide

theorem useInsert_of_sel {sel : Selector} {r : Reason} (h : reasonOfSel sel = some r) (u : UseSet) :
    useInsert r u = ⟨u.tk || sel == 1, u.lpt || sel == 2⟩ := by
  rcases eq_of_reasonOfSel h with ⟨rfl, rfl⟩ | ⟨rfl, rfl⟩ <;> simp [useInsert]

theorem useErase_of_sel {sel : Selector} {r : Reason} (h : reasonOfSel sel = some r) (u : UseSet) :
    useErase r u = ⟨u.tk && sel != 1, u.lpt && sel != 2⟩ := by
  rcases eq_of_reasonOfSel h with ⟨rfl, rfl⟩ | ⟨rfl, rfl⟩ <;> simp [useErase]

theorem useEmpty_eq_false_iff (u : UseSet) : useEmpty u = false ↔ u ≠ ⟨false, false⟩ := by
  rw [← Bool.not_eq_true, Ne, useEmpty_iff]

theorem lastReason_iff (r : Reason) (u : UseSet) :
    lastReason r u = true ↔ u ≠ ⟨false, false⟩ ∧ useErase r u = ⟨false, false⟩ := by
  rw [lastReason, Bool.and_eq_true, Bool.not_eq_true', useEmpty_eq_false_iff, useEmpty_iff]

/-! ### RI1 and RF1 by case (R111, R112) -/

theorem rtcStart_of_full {s : State} (r : Reason) (next : FrontEndPtr)
    (hu : s.use = ⟨false, false⟩) (hb : s.blk.em2 = blkMax) :
    rtcStart r next s = raise .blockCountOverflow (depthInfo .em2) s := by
  simp [rtcStart, (useEmpty_iff _).mpr hu, hb]

theorem rtcStart_of_room {s : State} (r : Reason) (next : FrontEndPtr)
    (hu : s.use = ⟨false, false⟩) (hb : s.blk.em2 ≠ blkMax) :
    rtcStart r next s =
      { s with
        cnt := 0, flags := noFlags, ien := ⟨true, false⟩
        blk := { s.blk with em2 := s.blk.em2 + 1 }, use := useInsert r s.use, fe := next } := by
  simp [rtcStart, (useEmpty_iff _).mpr hu, hb, blkSet]

theorem rtcStart_of_running {s : State} (r : Reason) (next : FrontEndPtr)
    (hu : s.use ≠ ⟨false, false⟩) :
    rtcStart r next s = { s with use := useInsert r s.use, fe := next } := by
  simp [rtcStart, (useEmpty_eq_false_iff _).mpr hu]

theorem blkRelease_em2 (b : BlockCounts) :
    blkRelease b .em2 = { b with em2 := if b.em2 = 0 then 0 else b.em2 - 1 } := by
  by_cases h : blkGet b .em2 = 0
  · have floor : b.em2 = 0 := h
    rw [blkRelease, if_pos h, if_pos floor, ← floor]
  · have positive : b.em2 ≠ 0 := h
    rw [blkRelease, if_neg h, if_neg positive]
    rfl

theorem rtcStop_of_last {r : Reason} {s : State} (h : lastReason r s.use = true) :
    rtcStop r s =
      { s with
        use := useErase r s.use, ien := noFlags, flags := noFlags, cnt := 0, comp := 0
        blk := { s.blk with em2 := if s.blk.em2 = 0 then 0 else s.blk.em2 - 1 }, fe := .idle } := by
  rw [rtcStop, if_pos h, blkRelease_em2]

theorem rtcStop_of_not_last {r : Reason} {s : State} (h : lastReason r s.use = false) :
    rtcStop r s = { s with use := useErase r s.use, fe := .idle } := by
  simp [rtcStop, h]

theorem stepRI1_of_no_reason {sel : Selector} (s : State) (h : reasonOfSel sel = none) :
    stepRI1 sel s = raise .badArgument s.cmd s := by
  simp [stepRI1, h]

theorem stepRI1_of_reason {sel : Selector} {r : Reason} (s : State) (h : reasonOfSel sel = some r) :
    stepRI1 sel s = rtcStart r .idle s := by
  simp [stepRI1, h]

theorem stepRF1_of_no_reason {sel : Selector} (s : State) (h : reasonOfSel sel = none) :
    stepRF1 sel s = raise .badArgument s.cmd s := by
  simp [stepRF1, h]

theorem stepRF1_of_reason {sel : Selector} {r : Reason} (s : State) (h : reasonOfSel sel = some r) :
    stepRF1 sel s = rtcStop r s := by
  simp [stepRF1, h]

/-- Settles O11: for a legal reason RI1 is `rtcStart`, whose cases are by USE and the room in EM2's
count. -/
theorem rtcInitStartsOrFaults : Obligations.RtcInitStartsOrFaults := by
  rintro sel s ⟨hf, hfe⟩
  have run : exec (.rtcInit sel) s = .next (stepRI1 sel s) := commandStep_atStep hf hfe rfl
  rw [run]
  refine ⟨encode_toNat (.rtcInit sel), fun hsel => ?_, fun hsel => ?_⟩
  · rw [stepRI1_of_no_reason s ((reasonOfSel_eq_none_iff sel).mpr hsel)]
    rfl
  · obtain ⟨r, hr⟩ := exists_reason_of_legal hsel
    rw [stepRI1_of_reason s hr]
    refine ⟨fun stopped full => ?_, fun stopped room => ?_, fun running => ?_⟩
    · rw [rtcStart_of_full r .idle stopped full]
      rfl
    · rw [rtcStart_of_room r .idle stopped room, useInsert_of_sel hr, stopped]
      rfl
    · rw [rtcStart_of_running r .idle running, useInsert_of_sel hr]

/-- Settles O12: for a legal reason RF1 is `rtcStop`, which tears down exactly on the last reason. -/
theorem rtcFreeStopsOrFaults : Obligations.RtcFreeStopsOrFaults := by
  rintro sel s ⟨hf, hfe⟩ left
  have run : exec (.rtcFree sel) s = .next (stepRF1 sel s) := commandStep_atStep hf hfe rfl
  rw [run]
  refine ⟨encode_toNat (.rtcFree sel), fun hsel => ?_, fun hsel => ?_⟩
  · rw [stepRF1_of_no_reason s ((reasonOfSel_eq_none_iff sel).mpr hsel)]
    rfl
  · obtain ⟨r, hr⟩ := exists_reason_of_legal hsel
    have erased : useErase r s.use = left := useErase_of_sel hr s.use
    have last := lastReason_iff r s.use
    rw [erased] at last
    rw [stepRF1_of_reason s hr]
    refine ⟨fun emptied => ?_, fun kept => ?_⟩
    · rw [rtcStop_of_last (last.mpr emptied), erased, emptied.2]
      rfl
    · have not_last : lastReason r s.use = false := by
        rw [← Bool.not_eq_true, last]
        tauto
      rw [rtcStop_of_not_last not_last, erased]

/-! ### The running checks (R110) -/

theorem needRunning_stopped {s : State} (k : State) (h : useEmpty s.use = true) :
    needRunning s k = raise .notRunning s.cmd s := if_pos h

theorem needTicker_absent {s : State} (k : State) (h : s.use.lpt = false) :
    needTicker s k = raise .notRunning s.cmd s := by
  simp [needTicker, h]

section
variable {op : Op} {s : State}

/-- The commands of R110 that need USE ≠ 0 check it in their first micro-step. -/
theorem exec_needRunning (hn : needsRunning op = true) (hf : s.fault = none)
    (hfe : s.fe = .command op (firstMicro op)) (sel : Selector) :
    ∃ k, exec (instrOf op sel) s = .next (needRunning s k) := by
  cases op with
  | rtcReadOvf | rtcReadExt | rtcReadWall | rtcWriteWall =>
    exact ⟨_, commandStep_atStep hf hfe rfl⟩
  | _ => cases hn

/-- The commands of R110 that need USE.LPT check it in their first micro-step. -/
theorem exec_needTicker (hn : needsTicker op = true) (hf : s.fault = none)
    (hfe : s.fe = .command op (firstMicro op)) (sel : Selector) :
    ∃ k, exec (instrOf op sel) s = .next (needTicker s k) := by
  cases op with
  | tickerRead | tickerSetInt | tickerGetOvfHi | tickerGetCompare | tickerSleepUntil =>
    exact ⟨_, commandStep_atStep hf hfe rfl⟩
  | _ => cases hn

end

/-- Settles O13. -/
theorem notRunningFaults : Obligations.NotRunningFaults := by
  rintro op sel s ⟨hf, hfe⟩ (⟨hn, hu⟩ | ⟨hn, hu⟩)
  · obtain ⟨k, run⟩ := exec_needRunning hn hf hfe sel
    rw [run, needRunning_stopped k ((useEmpty_iff _).mpr hu)]
    rfl
  · obtain ⟨k, run⟩ := exec_needTicker hn hf hfe sel
    rw [run, needTicker_absent k hu]
    rfl

end Sys2Proof.Machine
end

section
/-! The reads of the RTC driver and the time snapshot (R113 to R118): each micro-step by itself. -/

namespace Sys2Proof.Machine

/-- The corrected count as a number (R12). -/
theorem ovfc_eq_ofNat (s : State) :
    ovfc s = BitVec.ofNat 32 ((s.ovf.toNat + s.flags.of.toNat) % 2 ^ 32) := by
  apply BitVec.eq_of_toNat_eq
  rw [ovfc_eq, BitVec.toNat_ofNat, Nat.mod_mod]
  cases s.flags.of with
  | false => exact (Nat.mod_eq_of_lt s.ovf.isLt).symm
  | true => exact BitVec.toNat_add s.ovf 1

/-- Settles O14: RO1 is the running check on the corrected count's response. -/
theorem readOvfRespondsOrFaults : Obligations.ReadOvfRespondsOrFaults := by
  rintro s ⟨hf, hfe⟩
  have run : exec .rtcReadOvf s = .next (needRunning s (respond (ovfc s) s)) :=
    commandStep_atStep hf hfe rfl
  refine ⟨by decide, fun stopped => ?_, fun running => ?_⟩
  · rw [run, needRunning_stopped _ ((useEmpty_iff _).mpr stopped)]
    rfl
  · rw [run, needRunning_running ((useEmpty_eq_false_iff _).mpr running), ovfc_eq_ofNat]
    rfl

/-! ### The snapshot (R114) -/

/-- The snapshots of the command rules, each with its SN1, its SN2 and the micro-step that follows
(R114 to R117, R133 to R136, R139). -/
inductive Snapshot : Op → Micro → Micro → Micro → Prop where
  | readExt : Snapshot .rtcReadExt .sn1 .sn2 .rx2
  | readWall : Snapshot .rtcReadWall .sn1 .sn2 .rw2
  | writeWall : Snapshot .rtcWriteWall .sn1 .sn2 .ww2
  | tickerRead : Snapshot .tickerRead .sn1 .sn2 .tr2
  | sleepUntil : Snapshot .tickerSleepUntil .sn1 .sn2 .su2
  | initArm : Snapshot .tickerInit .armSn1 .armSn2 .ap
  | setIntArm : Snapshot .tickerSetInt .armSn1 .armSn2 .ap
  | sleepUntilArm : Snapshot .tickerSleepUntil .armSn1 .armSn2 .ap

theorem useEmpty_of_ready {op : Op} {u : UseSet} (hn : needsRunning op = true)
    (h : ready op u = true) : useEmpty u = false := by
  simp only [ready, hn, Bool.and_eq_true] at h
  simpa using h.1

theorem lpt_of_ready {op : Op} {u : UseSet} (hn : needsTicker op = true) (h : ready op u = true) :
    u.lpt = true := by
  simp only [ready, hn, Bool.and_eq_true] at h
  simpa using h.2

section
variable {op : Op} {first second after : Micro} {s : State}

/-- Where the running check of R110 passes, SN1 is the shared `snapFirst`. -/
theorem Snapshot.exec_first (h : Snapshot op first second after) (hf : s.fault = none)
    (hfe : s.fe = .command op first) (hr : ready op s.use = true) (sel : Selector) :
    exec (instrOf op sel) s = .next (snapFirst (.command op second) (.command op after) s) := by
  cases h with
  | readExt | readWall | writeWall =>
    exact (commandStep_atStep hf hfe rfl).trans
      (congrArg _ (needRunning_running (useEmpty_of_ready rfl hr)))
  | tickerRead | sleepUntil | setIntArm =>
    exact (commandStep_atStep hf hfe rfl).trans
      (congrArg _ (needTicker_running (lpt_of_ready rfl hr)))
  | initArm | sleepUntilArm => exact commandStep_atStep hf hfe rfl

theorem Snapshot.exec_second (h : Snapshot op first second after) (hf : s.fault = none)
    (hfe : s.fe = .command op second) (sel : Selector) :
    exec (instrOf op sel) s = .next (snapSecond (.command op after) s) := by
  cases h <;> exact commandStep_atStep hf hfe rfl

end

theorem snapFirst_atomic {s : State} (second next : FrontEndPtr)
    (h : s.params.extReadAtomic = true) :
    snapFirst second next s = sampleTime (ovfc s) next s := if_pos h

theorem snapFirst_two_sample {s : State} (second next : FrontEndPtr)
    (h : s.params.extReadAtomic = false) :
    snapFirst second next s = { s with tmp := { s.tmp with osamp := ovfc s }, fe := second } := by
  simp [snapFirst, h]

/-- Settles O16: SN1 and SN2 are `snapFirst` and `snapSecond` for every command, and both end in
`sampleTime`. -/
theorem timeSnapshotSamples : Obligations.TimeSnapshotSamples := by
  intro op first second after s hop hf hr o sampled
  have snapshot : Snapshot op first second after := by
    simp only [List.mem_cons, Prod.mk.injEq, List.not_mem_nil, or_false] at hop
    rcases hop with ⟨rfl, rfl, rfl, rfl⟩ | ⟨rfl, rfl, rfl, rfl⟩ | ⟨rfl, rfl, rfl, rfl⟩ |
      ⟨rfl, rfl, rfl, rfl⟩ | ⟨rfl, rfl, rfl, rfl⟩ | ⟨rfl, rfl, rfl, rfl⟩ | ⟨rfl, rfl, rfl, rfl⟩ |
      ⟨rfl, rfl, rfl, rfl⟩ <;> constructor
  have sample (n : Word) (next : FrontEndPtr) :
      sampleTime n next s = { s with tmp := sampled n, fe := next } := by
    rw [sampleTime, ext32_eq_ofNat, full]
  have count : ovfc s = o := ovfc_eq s
  refine ⟨fun hfe atomic => ?_, fun hfe two => ?_, fun hfe => ?_⟩
  · rw [snapshot.exec_first hf hfe hr, snapFirst_atomic _ _ atomic, sample, count]
  · rw [snapshot.exec_first hf hfe hr, snapFirst_two_sample _ _ two, count]
  · rw [snapshot.exec_second hf hfe, snapSecond, sample]

/-! ### The last micro-steps (R115 to R118) -/

/-- Settles O18. -/
theorem secondsAreTheWholeQuotient : Obligations.SecondsAreTheWholeQuotient :=
  fun _ _ => BitVec.toNat_ofNat ..

/-- The wall-clock commands, each with its last micro-step and what that does (R116, R117). -/
inductive WallCommand : Op → Micro → (State → State) → Prop where
  | read : WallCommand .rtcReadWall .rw2 fun s => respond (sampledSecs s + s.tbase) s
  | write : WallCommand .rtcWriteWall .ww2 fun s =>
      { s with tbase := s.tmp.a - sampledSecs s, fe := .idle }

theorem WallCommand.snapshot {op : Op} {last : Micro} {finish : State → State}
    (h : WallCommand op last finish) : Snapshot op .sn1 .sn2 last := by
  cases h <;> constructor

theorem WallCommand.exec_last {op : Op} {last : Micro} {finish : State → State} {s : State}
    (h : WallCommand op last finish) (hf : s.fault = none) (hfe : s.fe = .command op last)
    (sel : Selector) : exec (instrOf op sel) s = .next (finish s) := by
  cases h <;> exact commandStep_atStep hf hfe rfl

/-- Settles O17: the seconds of the statement are `sampledSecs s` by definition. -/
theorem timeCommandsComplete : Obligations.TimeCommandsComplete := fun s hf =>
  ⟨fun hfe => TimeRead.ext.exec_last hf hfe s.tmp.sel,
    fun hfe => TimeRead.ticker.exec_last hf hfe s.tmp.sel,
    fun hfe => WallCommand.read.exec_last hf hfe s.tmp.sel,
    fun hfe => WallCommand.write.exec_last hf hfe s.tmp.sel⟩

end Sys2Proof.Machine
end

section
/-! RTC_WRITE_WALL and RTC_READ_WALL as whole commands among quiet turns (R116, R117, R58), and the round
trip of the two. -/

namespace Sys2Proof.Machine

theorem afterTurn_writeOpa {v : Word} {s : State} (hf : s.fault = none) (hfe : s.fe = .idle) :
    afterTurn (.env (.writeOpa v)) s = .next { s with opa := v, agenda := [] } :=
  (unlessHalted_running (s := { s with agenda := [] }) hf).trans
    (congrArg Host.Outcome.next (if_pos hfe))

theorem runTurns_append {ts us : List Turn} {s t : State} (h : runTurns ts s = .next t) :
    runTurns (ts ++ us) s = runTurns us t := by
  induction ts generalizing s with
  | nil =>
    injection h with h
    rw [List.nil_append, h]
  | cons tn ts ih =>
    obtain ⟨u, hu, hts⟩ := runTurns_cons_eq_next h
    rw [List.cons_append, runTurns_cons hu, ih hts]

/-- The wall-clock seconds a snapshot of `s` samples (R116 to R118). -/
def wallSecs (s : State) : Word := secs s.params.fTick (full (ovfc s) s.cnt)

/-- What a wall-clock command issued in `r` has done once it is complete in `s` (R116, R117). -/
inductive WallDone (r s : State) : Op → Prop where
  | read (h : s.resp = wallSecs r + r.tbase) : WallDone r s .rtcReadWall
  | wrote (h : s.tbase = r.opa - wallSecs r) : WallDone r s .rtcWriteWall

/-- How far a wall-clock command issued in `r` has come, by the most front-end turns it still needs. -/
inductive WallPhase (op : Op) (last : Micro) (r s : State) : Nat → Prop where
  | issued (i : Instr) (hfe : s.fe = .decode) (hd : decode s.cmd = some i) (hi : opOf i = op)
      (ha : s.opa = r.opa) (hb : s.tbase = r.tbase) : WallPhase op last r s 4
  | unsampled (hfe : s.fe = .command op .sn1) (ha : s.tmp.a = r.opa) (hb : s.tbase = r.tbase) :
      WallPhase op last r s 3
  | counted (hfe : s.fe = .command op .sn2) (ha : s.tmp.a = r.opa) (hb : s.tbase = r.tbase)
      (ho : s.tmp.osamp = ovfc r) : WallPhase op last r s 2
  | sampled (hfe : s.fe = .command op last) (ha : s.tmp.a = r.opa) (hb : s.tbase = r.tbase)
      (hfull : s.tmp.fullv = full (ovfc r) r.cnt) : WallPhase op last r s 1
  | done (hfe : s.fe = .idle) (h : WallDone r s op) : WallPhase op last r s 0

/-- The clock of `r` still stands in `s`, and the RTC runs. -/
structure ClockStands (r s : State) : Prop where
  running : s.fault = none
  used : useEmpty s.use = false
  corrected : ovfc s = ovfc r
  counter : s.cnt = r.cnt
  params : s.params = r.params

/-- The invariant of a wall-clock command issued in `r`. -/
structure WallRun (op : Op) (last : Micro) (r : State) (n : Nat) (s : State) : Prop
    extends ClockStands r s where
  phase : WallPhase op last r s n

theorem ClockStands.wallSecs_eq {r s : State} (h : ClockStands r s) : wallSecs s = wallSecs r := by
  rw [wallSecs, h.corrected, h.counter, h.params, wallSecs]

section
variable {op : Op} {last : Micro} {finish : State → State} {r s t : State} {n : Nat}

theorem WallPhase.of_quietKept (h : WallPhase op last r s n) (hk : QuietKept s t) :
    WallPhase op last r t n := by
  cases h with
  | issued i hfe hd hi ha hb =>
    exact .issued i (hk.fe.trans hfe) (hk.cmd ▸ hd) hi (hk.opa.trans ha) (hk.tbase.trans hb)
  | unsampled hfe ha hb => exact .unsampled (hk.fe.trans hfe) (hk.tmp ▸ ha) (hk.tbase.trans hb)
  | counted hfe ha hb ho =>
    exact .counted (hk.fe.trans hfe) (hk.tmp ▸ ha) (hk.tbase.trans hb) (hk.tmp ▸ ho)
  | sampled hfe ha hb hfull =>
    exact .sampled (hk.fe.trans hfe) (hk.tmp ▸ ha) (hk.tbase.trans hb) (hk.tmp ▸ hfull)
  | done hfe h =>
    refine .done (hk.fe.trans hfe) ?_
    cases h with
    | read h => exact .read (hk.resp.trans h)
    | wrote h => exact .wrote (hk.tbase.trans h)

theorem WallRun.of_quietKept (h : WallRun op last r n s) (hk : QuietKept s t) :
    WallRun op last r n t where
  running := hk.fault.trans h.running
  used := hk.use ▸ h.used
  corrected := hk.corrected.trans h.corrected
  counter := hk.cnt.trans h.counter
  params := hk.params.trans h.params
  phase := h.phase.of_quietKept hk

/-- The last micro-step completes the command and leaves the clock. -/
theorem WallCommand.finish_run (hop : WallCommand op last finish) (hc : ClockStands r s)
    (ha : s.tmp.a = r.opa) (hb : s.tbase = r.tbase)
    (hfull : s.tmp.fullv = full (ovfc r) r.cnt) : WallRun op last r 0 (finish s) := by
  have seconds : sampledSecs s = wallSecs r := by rw [sampledSecs, hfull, hc.params, wallSecs]
  obtain ⟨hf, hu, ho, hn, hp⟩ := hc
  cases hop with
  | read => exact ⟨⟨hf, hu, ho, hn, hp⟩, .done rfl (.read (congrArg₂ (· + ·) seconds hb))⟩
  | write => exact ⟨⟨hf, hu, ho, hn, hp⟩, .done rfl (.wrote (congrArg₂ (· - ·) ha seconds))⟩

/-- Each front-end turn brings the command a phase on, or two where SN1 samples the whole time (R114). -/
theorem WallRun.frontEnd (hop : WallCommand op last finish) (h : WallRun op last r n s) :
    ∃ m t, afterTurn .frontEnd s = .next t ∧ m ≤ n - 1 ∧ WallRun op last r m t := by
  obtain ⟨hc, hphase⟩ := h
  have hf := hc.running
  have stands {u : Tmp} {p : FrontEndPtr} :
      ClockStands r { s with tmp := u, fe := p, agenda := [] } :=
    ⟨hc.running, hc.used, hc.corrected, hc.counter, hc.params⟩
  cases hphase with
  | issued i hfe hd hi ha hb =>
    have first : firstMicro op = .sn1 := by cases hop <;> rfl
    exact ⟨3, _, afterTurn_decode hf hfe hd, le_rfl, stands,
      .unsampled (by rw [latch_fe, hi, first]) ha hb⟩
  | unsampled hfe ha hb =>
    have hready : ready op s.use = true := by
      cases hop <;> simp [ready, needsRunning, needsTicker, hc.used]
    have turn := (afterTurn_command hf hfe).trans
      (hop.snapshot.exec_first (s := { s with agenda := [] }) hf hfe hready _)
    rcases snapFirst_cases (.command op .sn2) (.command op last) { s with agenda := [] } with
      ⟨_, he⟩ | ⟨_, he⟩ <;> rw [he] at turn
    · exact ⟨1, _, turn, by omega, stands,
        .sampled rfl ha hb (congrArg₂ full hc.corrected hc.counter)⟩
    · exact ⟨2, _, turn, le_rfl, stands, .counted rfl ha hb hc.corrected⟩
  | counted hfe ha hb ho =>
    exact ⟨1, _, (afterTurn_command hf hfe).trans
        (hop.snapshot.exec_second (s := { s with agenda := [] }) hf hfe _),
      le_rfl, stands, .sampled rfl ha hb (congrArg₂ full ho hc.counter)⟩
  | sampled hfe ha hb hfull =>
    exact ⟨0, _, (afterTurn_command hf hfe).trans
        (hop.exec_last (s := { s with agenda := [] }) hf hfe _),
      le_rfl, hop.finish_run stands ha hb hfull⟩
  | done hfe h =>
    refine ⟨0, _, afterTurn_idle hf hfe, le_rfl, stands, .done hfe ?_⟩
    cases h with
    | read h => exact .read h
    | wrote h => exact .wrote h

end

/-- A wall-clock command issued at Idle completes on every quiet schedule with four front-end turns, and
the clock still stands. -/
theorem WallCommand.runTurns_issue {i : Instr} {last : Micro} {finish : State → State} {w : Word}
    {ts : List Turn} {s : State} (hop : WallCommand (opOf i) last finish) (hd : decode w = some i)
    (hf : s.fault = none) (hfe : s.fe = .idle) (hu : useEmpty s.use = false)
    (hq : ts.all isQuiet = true) (hn : 4 ≤ frontEndTurns ts) :
    ∃ t, runTurns (.env (.issue w) :: ts) s = .next t ∧ t.fe = .idle ∧ ClockStands s t ∧
      WallDone s t (opOf i) := by
  have start : WallRun (opOf i) last s 4 { s with cmd := w, fe := .decode, agenda := [] } :=
    ⟨⟨hf, hu, rfl, rfl, rfl⟩, .issued i rfl hd rfl rfl rfl⟩
  rw [runTurns_cons (afterTurn_issue hf hfe)]
  obtain ⟨t, run, hend⟩ := runTurns_quiet (P := WallRun (opOf i) last s) (·.running)
    WallRun.of_quietKept (WallRun.frontEnd hop) ts start hq hn
  cases hend.phase with
  | done hidle hdone => exact ⟨t, run, hidle, hend.toClockStands, hdone⟩

/-- Settles O47: the write leaves TBASE = v - seconds, the read adds the same seconds again, as no tick
moved the clock between the two snapshots. -/
theorem wallClockRoundTrip : Obligations.WallClockRoundTrip := by
  intro v ts us s hf hfe hu hqt hnt hqu hnu
  obtain ⟨t, write_run, tidle, tclock, tdone⟩ := WallCommand.write.runTurns_issue
    (i := .rtcWriteWall) (w := 0x00000015#32) (s := { s with opa := v, agenda := [] })
    (by decide) hf hfe hu hqt hnt
  obtain ⟨u, read_run, uidle, uclock, udone⟩ := WallCommand.read.runTurns_issue
    (i := .rtcReadWall) (w := 0x00000014#32) (by decide) tclock.running tidle tclock.used hqu hnu
  have run : runTurns (.env (.writeOpa v) :: .env (.issue 0x00000015#32) :: ts ++
      .env (.issue 0x00000014#32) :: us) s = .next u := by
    rw [List.cons_append, runTurns_cons (afterTurn_writeOpa hf hfe), runTurns_append write_run,
      read_run]
  refine ⟨u, run, uidle, uclock.running, ?_⟩
  cases tdone with
  | wrote tbase =>
    cases udone with
    | read resp => rw [resp, tbase, tclock.wallSecs_eq, add_sub_cancel]

end Sys2Proof.Machine
end

section
/-! The ring of ticks and the deadline an arm computes (R130, R131). -/

namespace Sys2Proof.Machine

/-! ### Distances on the ring (R130) -/

/-- The distance forward from `a` to `b` around the ring, as a number (R130). -/
theorem ringDistance_toNat (a b : Word) :
    (b - a).toNat = (b.toNat + 2 ^ 32 - a.toNat) % 2 ^ 32 := by
  have ha := a.isLt
  rw [BitVec.toNat_sub]
  congr 1
  omega

theorem between_iff (a b c : Word) :
    between a b c = true ↔
      0 < (b.toNat + 2 ^ 32 - a.toNat) % 2 ^ 32 ∧
      (b.toNat + 2 ^ 32 - a.toNat) % 2 ^ 32 < (c.toNat + 2 ^ 32 - a.toNat) % 2 ^ 32 := by
  rw [between, Bool.and_eq_true, decide_eq_true_iff, decide_eq_true_iff, BitVec.lt_def, BitVec.lt_def,
    ringDistance_toNat, ringDistance_toNat]
  rfl

/-- Settles O20: the three cases of A against C are the cases in which the distances wrap or not. -/
theorem betweenOnTheRing : Obligations.BetweenOnTheRing := by
  refine fun a b c => ⟨between_iff a b c, (between_iff a b c).trans ?_⟩
  have ha := a.isLt
  have hb := b.isLt
  have hc := c.isLt
  split_ifs with hac hca
  · omega
  · omega
  · rw [iff_false]
    omega

/-! ### The arm's computation (R131) -/

/-- Settles O21: the tie of `armCompute_tied`, as numbers. -/
theorem armCacheLowBitsAreTheCompareValue : Obligations.ArmCacheLowBitsAreTheCompareValue := by
  intro now cnt deadline
  rw [← armCompute_tied, BitVec.toNat_setWidth]

theorem isFar_iff (now deadline : Word) :
    isFar now deadline = true ↔ 0x00FFFFFF < (deadline.toNat + 2 ^ 32 - now.toNat) % 2 ^ 32 := by
  rw [isFar, decide_eq_true_iff, BitVec.lt_def, ringDistance_toNat]
  rfl

theorem armCompute_of_near {now deadline : Word} (cnt : Count) (h : isFar now deadline = false) :
    armCompute now cnt deadline = (deadline.setWidth 24, deadline) := by
  simp [armCompute, h]

theorem armCompute_of_far {now deadline : Word} (cnt : Count) (h : isFar now deadline = true) :
    armCompute now cnt deadline =
      (cnt - 1, ((now + 0x01000000#32) &&& 0xFF000000#32) ||| (cnt.setWidth 32 - 1)) := if_pos h

/-- The epoch of a time, its high 8 bits, in place. -/
theorem and_epochMask (x : Word) : x &&& 0xFF000000#32 = ((x >>> 24) % 0x100#32) <<< 24 := by
  have mask : ∀ i < 32, (0xFF000000#32).getLsbD i = decide (24 ≤ i) := by decide
  have small : (x >>> 24) % 0x100#32 = x >>> 24 := BitVec.umod_eq_of_lt (by bv_omega)
  rw [small]
  apply BitVec.eq_of_getLsbD_eq
  intro i hi
  rw [BitVec.getLsbD_and, mask i hi, BitVec.getLsbD_shiftLeft, BitVec.getLsbD_ushiftRight]
  by_cases h : 24 ≤ i
  · simp [h, hi]
  · simp [h]

/-- The far cache for a counter of at least 1 is an ExtendedTime: one epoch after now, one below the
counter. -/
theorem armCompute_far_cache {now deadline : Word} {cnt : Count} (far : isFar now deadline = true)
    (pos : 0 < cnt.toNat) :
    (armCompute now cnt deadline).2 = ext32 ((now + 0x01000000#32) >>> 24) (cnt - 1) := by
  have low : (cnt.setWidth 32 : Word) - 1 = (cnt - 1).setWidth 32 := by bv_omega
  rw [armCompute_of_far cnt far, and_epochMask, ext32, ← low]

theorem armCompute_far_cache_toNat {now deadline : Word} {cnt : Count}
    (far : isFar now deadline = true) (pos : 0 < cnt.toNat) :
    (armCompute now cnt deadline).2.toNat =
      (now.toNat + 2 ^ 24) % 2 ^ 32 / 2 ^ 24 * 2 ^ 24 + (cnt.toNat - 1) := by
  have hcnt := cnt.isLt
  have below : (cnt - 1).toNat = cnt.toNat - 1 := by bv_omega
  rw [armCompute_far_cache far pos, ext32_eq_ofNat, below, BitVec.toNat_ofNat,
    BitVec.toNat_ushiftRight, BitVec.toNat_add, BitVec.toNat_ofNat, Nat.shiftRight_eq_div_pow]
  omega

/-- The far cache for a counter of 0 has all bits set, as the counter less one borrows (R131). -/
theorem armCompute_far_cache_zero {now deadline : Word} (far : isFar now deadline = true) :
    (armCompute now 0 deadline).2 = 0xFFFFFFFF#32 := by
  rw [armCompute_of_far 0 far]
  exact BitVec.or_allOnes

/-- Settles O22: `isFar` is the statement's case split; the far cache joins an epoch and a counter. -/
theorem armComputeBranches : Obligations.ArmComputeBranches := by
  intro now cnt deadline delta
  refine ⟨fun near => ?_, fun far => ?_⟩
  · have not_far : isFar now deadline = false := by
      rw [← Bool.not_eq_true, isFar_iff]
      exact near.not_gt
    rw [armCompute_of_near cnt not_far]
    exact ⟨BitVec.toNat_setWidth .., rfl⟩
  · have is_far := (isFar_iff now deadline).mpr far
    refine ⟨?_, armCompute_far_cache_toNat is_far, fun zero => ?_, fun pos sampled => ?_⟩
    · have hcnt := cnt.isLt
      rw [armCompute_of_far cnt is_far]
      bv_omega
    · obtain rfl : cnt = 0 := BitVec.eq_of_toNat_eq zero
      exact armCompute_far_cache_zero is_far
    · apply BitVec.eq_of_toNat_eq
      rw [armCompute_far_cache_toNat is_far pos, BitVec.toNat_add, BitVec.toNat_ofNat]
      have hnow := now.isLt
      omega

end Sys2Proof.Machine
end

section
/-! The ticker's micro-steps by themselves (R132 to R139), and the one-shot compare interrupt (R140,
R211). -/

namespace Sys2Proof.Machine

/-! ### The getters (R137, R138) -/

/-- Bits 31:8 of the corrected count as a number (R137). -/
theorem ovfc_shift_eq_ofNat (s : State) :
    ovfc s >>> 8 = BitVec.ofNat 32 ((s.ovf.toNat + s.flags.of.toNat) % 2 ^ 32 / 2 ^ 8) := by
  apply BitVec.eq_of_toNat_eq
  rw [ovfc_eq_ofNat, BitVec.toNat_ushiftRight, BitVec.toNat_ofNat, BitVec.toNat_ofNat,
    Nat.shiftRight_eq_div_pow]
  omega

/-- Settles O15: GO1 and GC1 are the running check on their response. -/
theorem tickerGettersRespondOrFault : Obligations.TickerGettersRespondOrFault := by
  intro s hf
  have go1 (hfe : s.fe = .command .tickerGetOvfHi .go1) :
      exec .tickerGetOvfHi s = .next (needTicker s (respond (ovfc s >>> 8) s)) :=
    commandStep_atStep hf hfe rfl
  have gc1 (hfe : s.fe = .command .tickerGetCompare .gc1) :
      exec .tickerGetCompare s = .next (needTicker s (respond s.cache s)) :=
    commandStep_atStep hf hfe rfl
  refine ⟨by decide, by decide, fun absent => ⟨fun hfe => ?_, fun hfe => ?_⟩,
    fun present => ⟨fun hfe => ?_, fun hfe => ?_⟩⟩
  · rw [go1 hfe, needTicker_absent _ absent]
    rfl
  · rw [gc1 hfe, needTicker_absent _ absent]
    rfl
  · rw [go1 hfe, needTicker_running present, ovfc_shift_eq_ofNat]
    rfl
  · rw [gc1 hfe, needTicker_running present]
    rfl

/-! ### TI1 (R134) -/

theorem exec_ti1 {s : State} (hf : s.fault = none) (hfe : s.fe = .command .tickerInit .ti1) :
    exec .tickerInit s = .next (rtcStart .lpt (.command .tickerInit .armSn1) s) :=
  commandStep_atStep hf hfe rfl

/-- Settles O24: TI1 is the `rtcStart` of RTC_INIT for the reason LPT. -/
theorem tickerInitStartsTheRtc : Obligations.TickerInitStartsTheRtc := by
  rintro s ⟨hf, hfe⟩
  rw [exec_ti1 hf hfe]
  refine ⟨fun stopped full => ?_, fun stopped room => ?_, fun running => ?_⟩
  · rw [rtcStart_of_full _ _ stopped full]
    rfl
  · rw [rtcStart_of_room _ _ stopped room, stopped]
    rfl
  · rw [rtcStart_of_running _ _ running]
    rfl

/-! ### SU2 and SU5 (R139) -/

theorem exec_su2 {s : State} (hf : s.fault = none) (hfe : s.fe = .command .tickerSleepUntil .su2) :
    exec .tickerSleepUntil s = .next (stepSU2 s) :=
  commandStep_atStep hf hfe rfl

theorem stepSU2_of_not_between {s : State} (h : between s.tmp.a (minimumWake s) s.tmp.b = false) :
    stepSU2 s = respond 0 { s with tmp := { s.tmp with wake := minimumWake s } } := by
  simp [stepSU2, h]

theorem stepSU2_of_between {s : State} (h : between s.tmp.a (minimumWake s) s.tmp.b = true) :
    stepSU2 s =
      { s with
        tmp := { s.tmp with wake := minimumWake s }
        fe := .command .tickerSleepUntil .armSn1 } := if_pos h

/-- Settles O25: the statement's `wake` is `minimumWake s`. -/
theorem sleepUntilDecidesAndCompletes : Obligations.SleepUntilDecidesAndCompletes := by
  intro s hf wake
  refine ⟨fun hfe refused => ?_, fun hfe accepted => ?_, fun hfe => commandStep_atStep hf hfe rfl⟩
  · rw [exec_su2 hf hfe, stepSU2_of_not_between refused]
    rfl
  · rw [exec_su2 hf hfe, stepSU2_of_between accepted]
    rfl

/-! ### The arm's AP and AC (R132, R133) -/

/-- The commands that arm, each with its deadline, given TMP.b, and where it goes on (R134, R136,
R139). -/
inductive Arming (b : Word) : Op → Word → FrontEndPtr → Prop where
  | init : Arming b .tickerInit initDeadline .idle
  | setInt : Arming b .tickerSetInt b .idle
  | sleepUntil : Arming b .tickerSleepUntil b (.command .tickerSleepUntil .slp1)

section
variable {b : Word} {op : Op} {d : Word} {next : FrontEndPtr} {s : State}

theorem Arming.exec_ap (h : Arming b op d next) (hb : s.tmp.b = b) (hf : s.fault = none)
    (hfe : s.fe = .command op .ap) (sel : Selector) :
    exec (instrOf op sel) s = .next (armPrepare d (.command op .ac) s) := by
  subst hb
  cases h <;> exact commandStep_atStep hf hfe rfl

theorem Arming.exec_ac (h : Arming b op d next) (hf : s.fault = none)
    (hfe : s.fe = .command op .ac) (sel : Selector) :
    exec (instrOf op sel) s = .next (armCommit next s) := by
  cases h <;> exact commandStep_atStep hf hfe rfl

end

/-- R132 in two steps: the clear of a stale flag, then the match on write. -/
theorem commitFlag_eq_ite (clears matchEq : Bool) (armed cnt : Count) (old : Bool) :
    commitFlag clears matchEq armed cnt old =
      if matchEq = true ∧ armed = cnt then true else if clears then false else old := by
  by_cases hit : matchEq = true ∧ armed = cnt
  · simp [commitFlag, hit]
  · have miss : (matchEq && armed == cnt) = false := by simpa using hit
    cases clears <;> simp [commitFlag, hit, miss]

/-- Settles O23: AP and AC are `armPrepare` and `armCommit` for every command that arms. -/
theorem armPreparesAndCommits : Obligations.ArmPreparesAndCommits := by
  intro op deadline next s hop hf
  have arming : Arming s.tmp.b op deadline next := by
    rcases hop with ⟨rfl, rfl, rfl⟩ | ⟨rfl, rfl, rfl⟩ | ⟨rfl, rfl, rfl⟩ <;> constructor
  refine ⟨fun hfe => arming.exec_ap rfl hf hfe _, fun hfe => ⟨s.tmp.comp, ?_⟩⟩
  rw [arming.exec_ac hf hfe, armCommit, commitFlag_eq_ite]

/-! ### The compare interrupt is one-shot (R140, R211) -/

/-- What a micro-step does to IEN.COMP in a consistent state: AC sets it, the teardown clears it. -/
theorem CommandMove.ien_comp {op : Op} {k : Micro} {s t : State} (h : CommandMove op k s t)
    (hs : Consistent s) :
    t.ien.comp = s.ien.comp ∨ k = .ac ∧ t.ien.comp = true ∨
      op = .rtcFree ∧ k = .rf1 ∧ t.ien.comp = false ∧ t.use = ⟨false, false⟩ := by
  cases h with
  | committed _ hk => exact .inr (.inl ⟨hk, rfl⟩)
  | tornDown r hop hk _ hu =>
    exact .inr (.inr ⟨hop, hk, rfl, (useEmpty_iff _).mp (useEmpty_useErase_of_last hu)⟩)
  | started _ _ _ hu =>
    obtain ⟨_, _, hien, _⟩ := hs.stopped hu
    exact .inl (by rw [hien]; rfl)
  | _ => exact .inl rfl

theorem tickStep_ien (s : State) : (tickStep s).ien = s.ien := by rw [tickStep_frame]

/-- The Handler disables the compare interrupt as it services a match, and never enables it (R170). -/
theorem handlerStep_ien_comp (s : State) :
    (handlerStep s).ien.comp = s.ien.comp ∨
      s.flags.comp = true ∧ (handlerStep s).ien.comp = false := by
  rcases handlerStep_cases s with ⟨_, he⟩ | ⟨_, he⟩ <;> rw [he]
  · exact .inl rfl
  · cases hcomp : s.flags.comp <;> simp [serviceEnables, hcomp]

/-- What a step that is no block reset does to IEN.COMP in a consistent state. -/
theorem step_ien_comp {s t : State} (hs : Consistent s) (ht : step s = .next t)
    (hreset : nextTurn s ≠ .blockReset) :
    t.ien.comp = s.ien.comp ∨
    (nextTurn s = .frontEnd ∧ ∃ op, s.fe = .command op .ac) ∧ t.ien.comp = true ∨
    (nextTurn s = .handler ∧ s.flags.comp = true ∨
      nextTurn s = .frontEnd ∧ s.fe = .command .rtcFree .rf1 ∧ t.use = ⟨false, false⟩) ∧
        t.ien.comp = false := by
  have unchanged {P : Prop} (h : t.ien = (spendTurn s).ien) : t.ien.comp = s.ien.comp ∨ P :=
    .inl (by rw [h, spendTurn_ien])
  cases step_move ht with
  | reset h => exact absurd h hreset
  | ticked => exact unchanged (tickStep_ien _)
  | handled hn =>
    rcases handlerStep_ien_comp (spendTurn s) with h | ⟨hcomp, h⟩
    · exact .inl (by simpa using h)
    · exact .inr (.inr ⟨.inl ⟨hn, by simpa using hcomp⟩, h⟩)
  | env _ _ _ _ he => exact unchanged (by rw [envStep_frame he])
  | idled | illegal | latched => exact unchanged rfl
  | commanded op k _ hn _ hfe hm =>
    rcases hm.ien_comp hs.spendTurn with h | ⟨rfl, h⟩ | ⟨rfl, rfl, h, hu⟩
    · exact .inl (by simpa using h)
    · exact .inr (.inl ⟨⟨hn, op, hfe⟩, h⟩)
    · exact .inr (.inr ⟨.inr ⟨hn, hfe, hu⟩, h⟩)

/-- Settles O39, from the three cases of `step_ien_comp`. -/
theorem compareInterruptIsOneShot : Obligations.CompareInterruptIsOneShot := by
  intro s t hs ht hreset
  rcases step_ien_comp hs ht hreset with same | ⟨committed, on⟩ | ⟨disarmed, off⟩
  · refine ⟨fun was is => ?_, fun was is => ?_⟩ <;> simp [same, was] at is
  · exact ⟨fun _ _ => committed, fun _ is => by simp [on] at is⟩
  · exact ⟨fun _ is => by simp [off] at is, fun _ _ => disarmed⟩

end Sys2Proof.Machine
end

section
/-! The ticker commands that arm, as wholes: runs of front-end turns alone, the arm as one of them, and
TICKER_INIT, TICKER_SET_INT and TICKER_SLEEP_UNTIL put together from it (R133, R134, R136, R139). -/

namespace Sys2Proof.Machine

/-! ### Front-end turns in a row -/

/-- `n` turns of the front-end in a row are enough to bring `s` to `t`. -/
def FrontEndReaches (n : Nat) (s t : State) : Prop :=
  ∃ m ≤ n, runTurns (List.replicate m .frontEnd) s = .next t

theorem FrontEndReaches.one {s t : State} (h : afterTurn .frontEnd s = .next t) :
    FrontEndReaches 1 s t :=
  ⟨1, le_rfl, runTurns_cons h⟩

theorem FrontEndReaches.mono {n m : Nat} {s t : State} (h : FrontEndReaches n s t) (hn : n ≤ m) :
    FrontEndReaches m s t := by
  obtain ⟨k, hk, run⟩ := h
  exact ⟨k, hk.trans hn, run⟩

theorem FrontEndReaches.trans {n m : Nat} {s t u : State} (h : FrontEndReaches n s t)
    (h' : FrontEndReaches m t u) : FrontEndReaches (n + m) s u := by
  obtain ⟨k, hk, run⟩ := h
  obtain ⟨l, hl, run'⟩ := h'
  exact ⟨k + l, Nat.add_le_add hk hl, by rw [List.replicate_add, runTurns_append run, run']⟩

theorem runTurns_frontEnd_resting {t : State} (h : afterTurn .frontEnd t = .next t) (n : Nat) :
    runTurns (List.replicate n .frontEnd) t = .next t := by
  induction n with
  | zero => rfl
  | succ n ih => rw [List.replicate_succ, runTurns_cons h, ih]

/-- Where the front-end rests, the turns it did not need pass. -/
theorem FrontEndReaches.runTurns_eq {n : Nat} {s t : State} (h : FrontEndReaches n s t)
    (rests : afterTurn .frontEnd t = .next t) : runTurns (List.replicate n .frontEnd) s = .next t := by
  obtain ⟨m, hm, run⟩ := h
  rw [← Nat.add_sub_cancel' hm, List.replicate_add, runTurns_append run,
    runTurns_frontEnd_resting rests]

/-- The turn of a command's micro-step, where no settled turn is left for it to spend. -/
theorem afterTurn_command_alone {op : Op} {k : Micro} {s : State} (hf : s.fault = none)
    (ha : s.agenda = []) (hfe : s.fe = .command op k) :
    afterTurn .frontEnd s = exec (instrOf op s.tmp.sel) s := by
  rw [afterTurn_command hf hfe, ← ha]

theorem FrontEndReaches.exec {op : Op} {k : Micro} {s t : State} (hf : s.fault = none)
    (ha : s.agenda = []) (hfe : s.fe = .command op k)
    (h : exec (instrOf op s.tmp.sel) s = .next t) : FrontEndReaches 1 s t :=
  .one ((afterTurn_command_alone hf ha hfe).trans h)

theorem afterTurn_at_idle {s : State} (hf : s.fault = none) (ha : s.agenda = [])
    (hfe : s.fe = .idle) : afterTurn .frontEnd s = .next s := by
  rw [afterTurn_idle hf hfe, ← ha]

/-- Held in SLP2 without a wake the front-end rests (R105). -/
theorem Sleeper.afterTurn_held {op : Op} {next : FrontEndPtr} {s : State} (h : Sleeper op next)
    (hf : s.fault = none) (ha : s.agenda = []) (hfe : s.fe = .command op .slp2)
    (hw : wakeCond s = false) : afterTurn .frontEnd s = .next s := by
  rw [afterTurn_command_alone hf ha hfe, h.exec_slp2 hf hfe, sleepExit_of_no_wake _ hw]

/-! ### Issuing a command -/

/-- `s` once Env has issued `w` (R185). -/
def issued (w : Word) (s : State) : State := { s with cmd := w, fe := .decode, agenda := [] }

/-- An issued word is decoded in one turn of its own. -/
theorem runTurns_issue {i : Instr} {w : Word} {n : Nat} {s t : State} (hf : s.fault = none)
    (hfe : s.fe = .idle) (hd : decode w = some i) (h : FrontEndReaches n (latch i (issued w s)) t)
    (rests : afterTurn .frontEnd t = .next t) :
    runTurns (.env (.issue w) :: List.replicate (n + 1) .frontEnd) s = .next t := by
  have decoded : afterTurn .frontEnd (issued w s) = .next (latch i (issued w s)) :=
    afterTurn_decode hf rfl hd
  rw [runTurns_cons (afterTurn_issue hf hfe), List.replicate_succ]
  exact (runTurns_cons decoded).trans (h.runTurns_eq rests)

theorem afterTurn_writeOpb {v : Word} {s : State} (hf : s.fault = none) (hfe : s.fe = .idle) :
    afterTurn (.env (.writeOpb v)) s = .next { s with opb := v, agenda := [] } :=
  (unlessHalted_running (s := { s with agenda := [] }) hf).trans
    (congrArg Host.Outcome.next (if_pos hfe))

/-- `s` with both operand registers written (R79). -/
def withOperands (a b : Word) (s : State) : State := { s with opa := a, opb := b, agenda := [] }

/-- A command of format CAB as Env calls it: OPA, OPB, then the word (R79, R81). -/
theorem runTurns_call {i : Instr} {a b w : Word} {n : Nat} {s t : State} (hf : s.fault = none)
    (hfe : s.fe = .idle) (hd : decode w = some i)
    (h : FrontEndReaches n (latch i (issued w (withOperands a b s))) t)
    (rests : afterTurn .frontEnd t = .next t) :
    runTurns (.env (.writeOpa a) :: .env (.writeOpb b) :: .env (.issue w) ::
      List.replicate (n + 1) .frontEnd) s = .next t := by
  have writeOpb := afterTurn_writeOpb (v := b) (s := { s with opa := a, agenda := [] }) hf hfe
  rw [runTurns_cons (afterTurn_writeOpa hf hfe), runTurns_cons writeOpb]
  exact runTurns_issue (s := withOperands a b s) hf hfe hd h rests

/-! ### A whole snapshot and a whole arm (R114, R133) -/

/-- The sample a snapshot taken in `s` ends with; `osamp` stands in TMP.osamp, which only the two-sample
form writes. -/
def snapped (osamp : Word) (next : FrontEndPtr) (s : State) : State :=
  sampleTime (ovfc s) next { s with tmp := { s.tmp with osamp := osamp } }

/-- `s` with the deadline `d` armed from a sample taken in `s`. -/
def armed (osamp d : Word) (op : Op) (next : FrontEndPtr) (s : State) : State :=
  armCommit next (armPrepare d (.command op .ac) (snapped osamp (.command op .ap) s))

/-- USE.LPT is all any command's running check asks for (R110). -/
theorem ready_of_lpt (op : Op) {u : UseSet} (h : u.lpt = true) : ready op u = true := by
  simp [ready, h, useEmpty_of_lpt h]

section
variable {op : Op} {first second after : Micro} {b d : Word} {next : FrontEndPtr} {s : State}

theorem Snapshot.second_reaches (h : Snapshot op first second after) (hf : s.fault = none)
    (ha : s.agenda = []) (hfe : s.fe = .command op second) :
    FrontEndReaches 1 s (snapSecond (.command op after) s) :=
  .exec hf ha hfe (h.exec_second hf hfe _)

/-- With no other agent's step in between, both forms of the snapshot sample the same time. -/
theorem Snapshot.reaches (h : Snapshot op first second after) (hf : s.fault = none)
    (ha : s.agenda = []) (hfe : s.fe = .command op first) (hr : ready op s.use = true) :
    ∃ osamp, FrontEndReaches 2 s (snapped osamp (.command op after) s) := by
  have sn1 := FrontEndReaches.exec hf ha hfe (h.exec_first hf hfe hr _)
  cases form : s.params.extReadAtomic with
  | true =>
    rw [snapFirst_atomic _ _ form] at sn1
    exact ⟨s.tmp.osamp, sn1.mono (by decide)⟩
  | false =>
    rw [snapFirst_two_sample _ _ form] at sn1
    have sn2 : FrontEndReaches 1
        { s with tmp := { s.tmp with osamp := ovfc s }, fe := .command op second }
        (snapped (ovfc s) (.command op after) s) :=
      h.second_reaches hf ha rfl
    exact ⟨ovfc s, sn1.trans sn2⟩

theorem Arming.snapshot (h : Arming b op d next) : Snapshot op .armSn1 .armSn2 .ap := by
  cases h <;> constructor

theorem Arming.ap_reaches (h : Arming b op d next) (hb : s.tmp.b = b) (hf : s.fault = none)
    (ha : s.agenda = []) (hfe : s.fe = .command op .ap) :
    FrontEndReaches 1 s (armPrepare d (.command op .ac) s) :=
  .exec hf ha hfe (h.exec_ap hb hf hfe _)

theorem Arming.ac_reaches (h : Arming b op d next) (hf : s.fault = none) (ha : s.agenda = [])
    (hfe : s.fe = .command op .ac) : FrontEndReaches 1 s (armCommit next s) :=
  .exec hf ha hfe (h.exec_ac hf hfe _)

/-- An arm takes at most four turns: its snapshot, AP and AC. -/
theorem Arming.reaches (h : Arming b op d next) (hb : s.tmp.b = b) (hf : s.fault = none)
    (ha : s.agenda = []) (hfe : s.fe = .command op .armSn1) (hr : ready op s.use = true) :
    ∃ osamp, FrontEndReaches 4 s (armed osamp d op next s) := by
  obtain ⟨osamp, sample⟩ := h.snapshot.reaches hf ha hfe hr
  have ap : FrontEndReaches 1 (snapped osamp (.command op .ap) s)
      (armPrepare d (.command op .ac) (snapped osamp (.command op .ap) s)) :=
    h.ap_reaches hb hf ha rfl
  have ac : FrontEndReaches 1
      (armPrepare d (.command op .ac) (snapped osamp (.command op .ap) s))
      (armed osamp d op next s) :=
    h.ac_reaches hf ha rfl
  exact ⟨osamp, (sample.trans ap).trans ac⟩

end

theorem armed_deadline (osamp d : Word) (op : Op) (next : FrontEndPtr) (s : State) :
    ((armed osamp d op next s).comp, (armed osamp d op next s).cache) =
      armCompute (ext32 (ovfc s) s.cnt) s.cnt d := rfl

theorem armed_flags (osamp d : Word) (op : Op) (next : FrontEndPtr) (s : State) :
    (armed osamp d op next s).flags =
      { s.flags with
        comp := commitFlag s.params.armClearsCompareFlag s.params.matchOnWriteEqual
          (armCompute (ext32 (ovfc s) s.cnt) s.cnt d).1 s.cnt s.flags.comp } := rfl

/-- An arm that matches nothing on its write leaves no flag pending where none was (R132). -/
theorem armed_flags_clear {osamp d : Word} {op : Op} {next : FrontEndPtr} {s : State}
    (hflags : s.flags = ⟨false, false⟩)
    (hmiss : s.params.matchOnWriteEqual = false ∨
      (armCompute (ext32 (ovfc s) s.cnt) s.cnt d).1 ≠ s.cnt) :
    (armed osamp d op next s).flags = ⟨false, false⟩ := by
  rw [armed_flags, hflags]
  rcases hmiss with h | h <;> simp [commitFlag, h]

/-! ### TICKER_SET_INT and TICKER_INIT as wholes (R134, R136) -/

/-- Settles O50: the command is its decode step and one arm. -/
theorem tickerSetIntArmsItsDeadline : Obligations.TickerSetIntArmsItsDeadline := by
  intro reference deadline s hf hfe hlpt
  obtain ⟨osamp, arm⟩ := Arming.setInt.reaches
    (s := latch .tickerSetInt (issued 0x00000022#32 (withOperands reference deadline s)))
    rfl hf rfl rfl (ready_of_lpt _ hlpt)
  exact ⟨_, runTurns_call hf hfe (by decide) arm (afterTurn_at_idle hf rfl rfl),
    rfl, hf, rfl, rfl, armed_deadline ..⟩

/-- Reset, once TICKER_INIT has been issued and decoded and TI1 has started the RTC (R41, R134). -/
def initStarted : State :=
  { latch .tickerInit (issued 0x00000020#32 .reset) with
    ien := ⟨true, false⟩, blk := ⟨0, 1, 0, 0⟩, use := ⟨false, true⟩
    fe := .command .tickerInit .armSn1 }

theorem initStarted_reached :
    FrontEndReaches 1 (latch .tickerInit (issued 0x00000020#32 .reset)) initStarted := by
  obtain ⟨_, start, _⟩ :=
    tickerInitStartsTheRtc (latch .tickerInit (issued 0x00000020#32 .reset)) ⟨rfl, rfl⟩
  exact FrontEndReaches.exec (op := .tickerInit) rfl rfl rfl (start rfl (by decide))

/-- At time 0 the arm of TICKER_INIT is a far one (R131). -/
theorem armCompute_initDeadline :
    armCompute (ext32 (ovfc initStarted) initStarted.cnt) initStarted.cnt initDeadline =
      (0xFFFFFF#24, 0xFFFFFFFF#32) := by decide

/-- Settles O49: TI1 starts the RTC at time 0, and the arm that follows does not match the counter. -/
theorem tickerInitFromReset : Obligations.TickerInitFromReset := by
  obtain ⟨osamp, arm⟩ := Arming.init.reaches (s := initStarted) rfl rfl rfl rfl rfl
  obtain ⟨comp, cache⟩ := Prod.mk.inj
    ((armed_deadline osamp initDeadline .tickerInit .idle initStarted).trans armCompute_initDeadline)
  have no_match : (armCompute (ext32 (ovfc initStarted) initStarted.cnt) initStarted.cnt
      initDeadline).1 ≠ initStarted.cnt := by decide
  have run := runTurns_issue (w := 0x00000020#32) rfl rfl (by decide)
    (initStarted_reached.trans arm) (afterTurn_at_idle rfl rfl rfl)
  exact ⟨_, run, rfl, rfl, rfl, rfl, rfl, armed_flags_clear rfl (.inr no_match), comp, cache, rfl⟩

/-! ### TICKER_SLEEP_UNTIL as a whole (R139) -/

theorem Sleeper.slp1_reaches {op : Op} {next : FrontEndPtr} {s : State} (h : Sleeper op next)
    (hf : s.fault = none) (ha : s.agenda = []) (hfe : s.fe = .command op .slp1) :
    FrontEndReaches 1 s (sleepEntry (.command op .slp2) next s) :=
  .exec hf ha hfe (h.exec_slp1 hf hfe _)

theorem wakeCond_eq_false {s : State} (hflags : s.flags = ⟨false, false⟩)
    (hext : s.extWake = false) : wakeCond s = false := by
  simp [wakeCond, rtcLine, hflags, hext]

section
variable {s : State}

theorem su2_reaches_idle (hf : s.fault = none) (ha : s.agenda = [])
    (hfe : s.fe = .command .tickerSleepUntil .su2)
    (h : between s.tmp.a (minimumWake s) s.tmp.b = false) :
    FrontEndReaches 1 s (respond 0 { s with tmp := { s.tmp with wake := minimumWake s } }) := by
  rw [← stepSU2_of_not_between h]
  exact .exec hf ha hfe (exec_su2 hf hfe)

theorem su2_reaches_arm (hf : s.fault = none) (ha : s.agenda = [])
    (hfe : s.fe = .command .tickerSleepUntil .su2)
    (h : between s.tmp.a (minimumWake s) s.tmp.b = true) :
    FrontEndReaches 1 s
      { s with
        tmp := { s.tmp with wake := minimumWake s }
        fe := .command .tickerSleepUntil .armSn1 } := by
  rw [← stepSU2_of_between h]
  exact .exec hf ha hfe (exec_su2 hf hfe)

/-- Once SU2 has accepted, and where no flag is up and the selected mode keeps the clock, the rest of the
command is an arm and the entry into sleep. -/
theorem FrontEndReaches.falls_asleep {n : Nat} {r : State} (h : FrontEndReaches n r s)
    (hf : s.fault = none) (ha : s.agenda = []) (hfe : s.fe = .command .tickerSleepUntil .armSn1)
    (hlpt : s.use.lpt = true) (hflags : s.flags = ⟨false, false⟩) (hext : s.extWake = false)
    (hmatch : s.params.matchOnWriteEqual = false) (hmode : depthCode (selected s) ≤ 2) :
    ∃ t, FrontEndReaches (n + 5) r t ∧ afterTurn .frontEnd t = .next t ∧
      t.fe = .command .tickerSleepUntil .slp2 ∧ t.fault = none ∧ t.resp = s.resp ∧
      t.pmode = modeOfDepth (selected s) ∧ t.ien = { s.ien with comp := true } ∧
      (t.comp, t.cache) = armCompute (ext32 (ovfc s) s.cnt) s.cnt s.tmp.b := by
  obtain ⟨osamp, arm⟩ := Arming.sleepUntil.reaches rfl hf ha hfe (ready_of_lpt _ hlpt)
  have no_wake := wakeCond_eq_false
    (armed_flags_clear (osamp := osamp) (d := s.tmp.b) (op := .tickerSleepUntil)
      (next := .command .tickerSleepUntil .slp1) hflags (.inl hmatch)) hext
  have entry := Sleeper.until.slp1_reaches
    (s := armed osamp s.tmp.b .tickerSleepUntil (.command .tickerSleepUntil .slp1) s) hf ha rfl
  rw [sleepEntry_of_kept _ _ no_wake (.inr hmode)] at entry
  exact ⟨_, h.trans (arm.trans entry), Sleeper.until.afterTurn_held hf ha rfl no_wake,
    rfl, hf, rfl, rfl, rfl,
    armed_deadline osamp s.tmp.b .tickerSleepUntil (.command .tickerSleepUntil .slp1) s⟩

end

/-- Settles O51: the command is its decode step, a snapshot and SU2, which refuses or goes on to
`FrontEndReaches.falls_asleep`. -/
theorem sleepUntilArmsThenSleeps : Obligations.SleepUntilArmsThenSleeps := by
  intro now until_ s hf hfe hlpt ts time
  obtain ⟨osamp, sample⟩ := Snapshot.sleepUntil.reaches
    (s := latch .tickerSleepUntil (issued 0x00000025#32 (withOperands now until_ s)))
    hf rfl rfl (ready_of_lpt _ hlpt)
  refine ⟨fun refused => ?_, fun accepted hflags hext hmatch hmode => ?_⟩
  · have decided := sample.trans (su2_reaches_idle hf rfl rfl refused)
    exact ⟨_, runTurns_call hf hfe (by decide) (decided.mono (m := 8) (by decide))
      (afterTurn_at_idle hf rfl rfl), rfl, hf, rfl, rfl, rfl, rfl, rfl⟩
  · have decided := sample.trans (su2_reaches_arm hf rfl rfl accepted)
    obtain ⟨t, sleep, rests, tfe, tf, tresp, tmode, tien, tdeadline⟩ :=
      decided.falls_asleep hf rfl rfl hlpt hflags hext hmatch hmode
    exact ⟨t, runTurns_call hf hfe (by decide) sleep rests, tfe, tf, tresp, tmode, tien, tdeadline⟩

end Sys2Proof.Machine
end

section
/-! A step that raises a fault writes FAULT alone (R160), agent by agent and move by move. -/

namespace Sys2Proof.Machine

/-- Where `t` has a fault recorded, it is `s` but for that record (R160). -/
def FaultsAlone (s t : State) : Prop := ∀ r, t.fault = some r → t = { s with fault := some r }

section
variable {s t : State}

theorem faultsAlone_of_running (h : t.fault = none) : FaultsAlone s t := fun r hr => by
  rw [h] at hr
  cases hr

theorem faultsAlone_raise (c : FaultCode) (info : Word) (s : State) :
    FaultsAlone s (raise c info s) := fun _ hr => by
  rw [← hr]
  rfl

theorem faultsAlone_tickStep (hf : s.fault = none) : FaultsAlone s (tickStep s) := by
  rcases tickStep_cases s with ⟨_, he⟩ | ⟨_, _, he⟩ | ⟨_, _, he⟩ <;> rw [he]
  · exact faultsAlone_of_running hf
  · exact faultsAlone_raise _ _ s
  · exact faultsAlone_of_running hf

theorem faultsAlone_handlerStep (hf : s.fault = none) : FaultsAlone s (handlerStep s) := by
  rw [handlerStep_frame]
  exact faultsAlone_of_running hf

theorem faultsAlone_portWrite {n : Word} {written : State} (hw : written.fault = none) :
    FaultsAlone s (portWrite n s written) := by
  rcases portWrite_cases n s written with ⟨_, he⟩ | ⟨_, he⟩ <;> rw [he]
  · exact faultsAlone_of_running hw
  · exact faultsAlone_raise _ _ s

theorem faultsAlone_envStep {e : EnvStep} (hf : s.fault = none) (ht : envStep e s = .next t) :
    FaultsAlone s t := by
  cases e with
  | writeOpa | writeOpb | issue =>
    injection ht with ht
    exact ht ▸ faultsAlone_portWrite hf
  | readResp | mask | unmask | raiseWake | saveHook | restoreHook =>
    injection ht with ht
    exact ht ▸ faultsAlone_of_running hf
  | partialAccess => cases ht

/-- Of the moves of a command only `raised` records a fault. -/
theorem CommandMove.faultsAlone {op : Op} {k : Micro} (h : CommandMove op k s t)
    (hf : s.fault = none) : FaultsAlone s t := by
  cases h with
  | raised c info => exact faultsAlone_raise c info s
  | _ => exact faultsAlone_of_running hf

theorem StepMove.faultsAlone (h : StepMove s t) : FaultsAlone (spendTurn s) t := by
  have spent (hf : s.fault = none) : (spendTurn s).fault = none := (spendTurn_fault s).trans hf
  cases h with
  | reset => exact faultsAlone_of_running rfl
  | ticked _ hf => exact faultsAlone_tickStep (spent hf)
  | handled _ hf => exact faultsAlone_handlerStep (spent hf)
  | env _ _ _ hf ht => exact faultsAlone_envStep (spent hf) ht
  | idled _ hf => exact faultsAlone_of_running (spent hf)
  | illegal => exact faultsAlone_raise _ _ _
  | latched _ _ hf => exact faultsAlone_of_running (spent hf)
  | commanded _ _ _ _ hf _ ht => exact ht.faultsAlone (spent hf)

end

/-- Settles O32, from the cases of a step (`step_move`). -/
theorem faultingStepWritesNothingElse : Obligations.FaultingStepWritesNothingElse :=
  fun _ _ r ht hr => (step_move ht).faultsAlone r hr

end Sys2Proof.Machine
end

section
/-! The turns of Tick, Handler and Env by themselves (R165 to R170, R185), and the turns of agents that
are not enabled. -/

namespace Sys2Proof.Machine

section
variable {s : State}

theorem takeTurn_tick (hf : s.fault = none) : takeTurn .tick s = .next (tickStep s) :=
  unlessHalted_running hf

theorem takeTurn_handler (hf : s.fault = none) : takeTurn .handler s = .next (handlerStep s) :=
  unlessHalted_running hf

theorem takeTurn_frontEnd (hf : s.fault = none) : takeTurn .frontEnd s = frontEndStep s :=
  unlessHalted_running hf

theorem takeTurn_env (e : EnvStep) (hf : s.fault = none) : takeTurn (.env e) s = envStep e s :=
  unlessHalted_running hf

/-! ### Tick (R165 to R167) -/

theorem nextCount_eq_ofNat (s : State) :
    nextCount s = BitVec.ofNat 24 ((s.cnt.toNat + 1) % 2 ^ 24) := by
  apply BitVec.eq_of_toNat_eq
  rw [nextCount, BitVec.toNat_add, BitVec.toNat_ofNat, Nat.mod_mod]
  rfl

/-- The next count is 0 exactly at the top of the counter. -/
theorem nextCount_eq_zero (s : State) : (nextCount s == 0) = (s.cnt.toNat == 0xFFFFFF) := by
  have top : nextCount s = 0#24 ↔ s.cnt.toNat = 0xFFFFFF := by
    rw [nextCount]
    bv_omega
  rw [Bool.eq_iff_iff, beq_iff_eq, beq_iff_eq]
  exact top

theorem tickStep_of_stopped (hu : s.use = ⟨false, false⟩) : tickStep s = s :=
  if_pos ((useEmpty_iff _).mpr hu)

theorem tickStep_of_kept (hu : useEmpty s.use = false) (hl : losesOverflow s = false) :
    tickStep s =
      { s with flags := tickFlags (nextCount s) s.comp s.flags, cnt := nextCount s } := by
  simp [tickStep, hu, hl]

theorem tickStep_of_lost (hu : useEmpty s.use = false) (hl : losesOverflow s = true) :
    tickStep s = raise .overflowLost s.ovf s := by
  simp [tickStep, hu, hl]

/-- Settles O26: the Tick loses an overflow exactly where the counter is at its top with IF.OF = 1. -/
theorem tickAdvancesTheCounter : Obligations.TickAdvancesTheCounter := by
  intro s hf hu c
  rw [takeTurn_tick hf]
  refine ⟨fun keeps => ?_, fun top pending => ?_⟩
  · have kept : losesOverflow s = false := by
      rw [losesOverflow, nextCount_eq_zero]
      rcases keeps with h | h <;> simp [h]
    rw [tickStep_of_kept hu kept, tickFlags, nextCount_eq_zero, nextCount_eq_ofNat]
  · have lost : losesOverflow s = true := by
      rw [losesOverflow, nextCount_eq_zero, top, pending]
      rfl
    rw [tickStep_of_lost hu lost]
    rfl

/-! ### Handler (R169, R170) -/

/-- `handler_enabled()` as R169 lists it, FAULT aside. -/
theorem handlerEnabled_iff (s : State) :
    handlerEnabled s = true ↔ rtcLine s = true ∧ s.irqMask = false ∧ s.pmode = .em0 := by
  simp [handlerEnabled, and_assoc]

theorem rtcLine_iff (s : State) :
    rtcLine s = true ↔
      s.flags.of = true ∧ s.ien.of = true ∨ s.flags.comp = true ∧ s.ien.comp = true := by
  simp [rtcLine]

theorem handlerStep_of_enabled (h : handlerEnabled s = true) :
    handlerStep s =
      { s with
        flags := noFlags, ovf := serviceOvf s.flags s.ovf, ien := serviceEnables s.flags s.ien } :=
  if_pos h

theorem handlerStep_of_disabled (h : handlerEnabled s = false) : handlerStep s = s := by
  simp [handlerStep, h]

/-- The service clears IEN.COMP exactly on a match (R170). -/
theorem serviceEnables_eq_ite (f ien : IntFlags) :
    serviceEnables f ien = if f.comp then { ien with comp := false } else ien := by
  cases h : f.comp <;> simp [serviceEnables, h]

/-- Settles O27. -/
theorem handlerServicesPendingFlags : Obligations.HandlerServicesPendingFlags := by
  intro s hf unmasked awake pending
  have enabled : handlerEnabled s = true :=
    (handlerEnabled_iff s).mpr ⟨(rtcLine_iff s).mpr pending, unmasked, awake⟩
  rw [takeTurn_handler hf, handlerStep_of_enabled enabled, serviceEnables_eq_ite]
  rfl

/-! ### Agents that are not enabled, and Env (R24, R165, R169, R185) -/

/-- Settles O28, agent by agent. -/
theorem disabledAgentsPass : Obligations.DisabledAgentsPass := by
  refine fun s hf => ⟨fun stopped => ?_, fun disabled => ?_, fun idle => ?_⟩
  · rw [takeTurn_tick hf, tickStep_of_stopped stopped]
  · have off : handlerEnabled s = false := by
      rw [← Bool.not_eq_true, handlerEnabled_iff]
      rintro ⟨line, unmasked, awake⟩
      simp [line, unmasked, awake] at disabled
    rw [takeTurn_handler hf, handlerStep_of_disabled off]
  · rw [takeTurn_frontEnd hf]
    exact if_pos idle

theorem portWrite_of_idle (n : Word) (written : State) (h : s.fe = .idle) :
    portWrite n s written = written := if_pos h

theorem portWrite_of_busy (n : Word) (written : State) (h : s.fe ≠ .idle) :
    portWrite n s written = raise .portBusy n s := if_neg h

end

/-- Settles O29: the port writes by FE, and a halted turn is the fault outcome (`takeTurn_halted`). -/
theorem envStepsAsListed : Obligations.EnvStepsAsListed := by
  intro s v
  refine ⟨fun hf => ?_, fun hf e t => ?_⟩
  · simp only [takeTurn_env _ hf]
    refine ⟨fun idle => ?_, fun busy => ?_, rfl, rfl, rfl, rfl, rfl, rfl, rfl⟩
    · simp only [envStep, portWrite_of_idle _ _ idle, and_self]
    · simp only [envStep, portWrite_of_busy _ _ busy]
      exact ⟨rfl, rfl, rfl⟩
  · obtain ⟨r, hr⟩ := Option.ne_none_iff_exists'.mp hf
    have halted : takeTurn (.env e) s = .fault (.halted r) := takeTurn_halted hr nofun
    rw [halted]
    nofun

end Sys2Proof.Machine
end

section
/-! Ticks in a row (R165 to R167): where the counter, IF.OF and IF.COMP stand after `n` of them, and what
follows for a match and for a sleep. -/

namespace Sys2Proof.Machine

/-- What `n` ticks in a row, with no other agent's step, make of `s`: the counter has gone up by `n`,
IF.OF is set by its wrap and IF.COMP by its arrival at COMP; all else is as it was. -/
structure Ticked (n : Nat) (s t : State) : Prop where
  frame : t = { s with cnt := t.cnt, flags := t.flags, agenda := t.agenda }
  counter : t.cnt = s.cnt + BitVec.ofNat 24 n
  overflow : t.flags.of = true ↔ s.flags.of = true ∨ 2 ^ 24 ≤ s.cnt.toNat + n
  compare : t.flags.comp = true ↔
    s.flags.comp = true ∨ ∃ m < n, s.cnt + BitVec.ofNat 24 (m + 1) = s.comp

theorem tickFlags_of (c comp : Count) (f : IntFlags) :
    (tickFlags c comp f).of = true ↔ f.of = true ∨ c = 0 := by
  simp [tickFlags]

theorem tickFlags_comp (c comp : Count) (f : IntFlags) :
    (tickFlags c comp f).comp = true ↔ f.comp = true ∨ c = comp := by
  simp [tickFlags]

theorem Ticked.zero (s : State) : Ticked 0 s s where
  frame := rfl
  counter := (BitVec.add_zero _).symm
  overflow := by
    have := s.cnt.isLt
    simp [this]
  compare := by simp

section
variable {n : Nat} {s t : State}

/-- After `n` ticks the next count is the start's plus `n + 1`. -/
theorem Ticked.nextCount_eq (h : Ticked n s t) : nextCount t = s.cnt + BitVec.ofNat 24 (n + 1) := by
  rw [nextCount, h.counter, BitVec.add_assoc, BitVec.ofNat_add]
  rfl

/-- Short of a second wrap no overflow is lost, where none was pending at the start. -/
theorem Ticked.losesOverflow_eq (h : Ticked n s t) (hof : s.flags.of = false)
    (hn : s.cnt.toNat + n + 1 < 2 ^ 25) : losesOverflow t = false := by
  by_contra lost
  simp only [losesOverflow, Bool.not_eq_false, Bool.and_eq_true, beq_iff_eq, h.nextCount_eq,
    h.overflow, hof, Bool.false_eq_true, false_or] at lost
  obtain ⟨wraps, wrapped⟩ := lost
  bv_omega

/-- One tick more. -/
theorem Ticked.tickStep (h : Ticked n s t) (hu : useEmpty s.use = false) (hof : s.flags.of = false)
    (hn : s.cnt.toNat + n + 1 < 2 ^ 25) :
    Ticked (n + 1) s (tickStep { t with agenda := [] }) := by
  have hut : useEmpty t.use = false := by rw [h.frame]; exact hu
  have hcomp : t.comp = s.comp := by rw [h.frame]
  have kept : losesOverflow { t with agenda := [] } = false := h.losesOverflow_eq hof hn
  rw [tickStep_of_kept (s := { t with agenda := [] }) hut kept]
  have next : nextCount { t with agenda := [] } = s.cnt + BitVec.ofNat 24 (n + 1) := h.nextCount_eq
  refine ⟨?_, next, (tickFlags_of ..).trans ?_, (tickFlags_comp ..).trans ?_⟩
  · rw [h.frame]
  · rw [next, h.overflow, hof]
    simp only [Bool.false_eq_true, false_or]
    bv_omega
  · rw [next, h.compare, hcomp, Nat.exists_lt_succ_right, or_assoc]

end

/-- Ticks in a row of a running block raise no fault before a second wrap. -/
theorem runTurns_ticks {s : State} (hf : s.fault = none) (hu : useEmpty s.use = false)
    (hof : s.flags.of = false) {n : Nat} (hn : s.cnt.toNat + n < 2 ^ 25) :
    ∃ t, runTurns (List.replicate n .tick) s = .next t ∧ Ticked n s t := by
  induction n with
  | zero => exact ⟨s, rfl, .zero s⟩
  | succ n ih =>
    obtain ⟨t, run, ticked⟩ := ih (by omega)
    have running : t.fault = none := by rw [ticked.frame]; exact hf
    refine ⟨_, ?_, ticked.tickStep hu hof hn⟩
    rw [List.replicate_succ', runTurns_append run, runTurns_cons (afterTurn_tick running)]
    rfl

/-- Settles O53: both runs are `runTurns_ticks`, and of the counts on the way only the last is COMP. -/
theorem matchComesWhenTheCounterArrives : Obligations.MatchComesWhenTheCounterArrives := by
  intro s hf hu hflags ahead
  have hof : s.flags.of = false := by rw [hflags]
  have hcomp : s.flags.comp = false := by rw [hflags]
  have ahead_lt : ahead < 2 ^ 24 := Nat.mod_lt _ (by decide)
  have arrives : s.cnt + BitVec.ofNat 24 (ahead + 1) = s.comp := by
    bv_omega
  have not_before : ∀ m < ahead, s.cnt + BitVec.ofNat 24 (m + 1) ≠ s.comp := by
    intro m hm
    bv_omega
  have below := s.cnt.isLt
  obtain ⟨t, run, before⟩ := runTurns_ticks hf hu hof (n := ahead) (by omega)
  obtain ⟨u, run', at_match⟩ := runTurns_ticks hf hu hof (n := ahead + 1) (by omega)
  refine ⟨t, u, run, ?_, run', ?_, at_match.counter.trans arrives, ?_⟩
  · rw [← Bool.not_eq_true, before.compare, hcomp]
    rintro (h | ⟨m, hm, h⟩)
    · cases h
    · exact not_before m hm h
  · exact at_match.compare.mpr (.inr ⟨ahead, Nat.lt_succ_self _, arrives⟩)
  · rw [at_match.frame]
    exact hf

/-! ### A sleep ends on the wrap (R180, R204) -/

/-- A command that names SLP2 has a sleep sequence. -/
theorem exists_sleeper {op : Op} (h : .slp2 ∈ microSteps op) : ∃ next, Sleeper op next := by
  cases op with
  | sleepEnter => exact ⟨_, .enter⟩
  | tickerSleepUntil => exact ⟨_, .until⟩
  | _ => simp [microSteps] at h

/-- A sleeper goes on elsewhere than where it sleeps. -/
theorem Sleeper.next_ne_slp2 {op : Op} {next : FrontEndPtr} (h : Sleeper op next) :
    next ≠ .command op .slp2 := by
  cases h <;> decide

/-- A pending overflow is a wake condition once its interrupt is enabled (R105, R168). -/
theorem wakeCond_of_overflow {s : State} (hof : s.flags.of = true) (hen : s.ien.of = true) :
    wakeCond s = true := by
  simp [wakeCond, rtcLine, hof, hen]

theorem overflow_clear_of_no_wake {s : State} (hen : s.ien.of = true) (hw : wakeCond s = false) :
    s.flags.of = false := by
  rw [← Bool.not_eq_true]
  intro hof
  rw [wakeCond_of_overflow hof hen] at hw
  cases hw

theorem Sleeper.takeTurn_wakes {op : Op} {next : FrontEndPtr} {s : State} (h : Sleeper op next)
    (hf : s.fault = none) (hfe : s.fe = .command op .slp2) (hw : wakeCond s = true) :
    takeTurn .frontEnd s = .next { s with pmode := .em0, extWake := false, fe := next } := by
  rw [takeTurn_frontEnd hf, frontEndStep_command hfe, h.exec_slp2 hf hfe, sleepExit_of_wake next hw]

/-- Settles O52: with the RTC running a consistent state has the overflow interrupt enabled, so no wake
pending means IF.OF = 0, and the wrap that sets it is one. -/
theorem sleepEndsAtTheLatestOnTheWrap : Obligations.SleepEndsAtTheLatestOnTheWrap := by
  rintro op s hs ⟨hf, hfe⟩ hu hw
  obtain ⟨next, sleeper⟩ := exists_sleeper (hs.named op .slp2 hfe)
  have enabled := hs.overflowEnabled hu
  have below := s.cnt.isLt
  obtain ⟨t, run, ticked⟩ := runTurns_ticks hf hu (overflow_clear_of_no_wake enabled hw)
    (n := 2 ^ 24 - s.cnt.toNat) (by omega)
  have wrapped : t.flags.of = true := ticked.overflow.mpr (.inr (by omega))
  have counter : t.cnt = 0 := by
    rw [ticked.counter]
    bv_omega
  have tf : t.fault = none := by rw [ticked.frame]; exact hf
  have tfe : t.fe = .command op .slp2 := by rw [ticked.frame]; exact hfe
  have tien : t.ien.of = true := by rw [ticked.frame]; exact enabled
  have tmode : t.pmode = s.pmode := by rw [ticked.frame]
  exact ⟨t, _, run, tf, counter, wrapped, tmode,
    sleeper.takeTurn_wakes tf tfe (wakeCond_of_overflow wrapped tien), rfl, sleeper.next_ne_slp2⟩

end Sys2Proof.Machine
end

section
/-! The commands that wait for nothing (R186): how many turns each micro-step is from the end, and that
every one of the front-end's turns brings the command nearer. -/

namespace Sys2Proof.Machine

/-- The latched selector names the command again (R24, R25). -/
theorem instrOf_opOf (i : Instr) : instrOf (opOf i) i.selector = i := by cases i <;> rfl

/-! ### Counting the turns -/

/-- How many front-end turns a bounded command at this micro-step still needs at most. The micro-steps
given 0 are those of SLEEP_ENTER and TICKER_SLEEP_UNTIL alone (`turnsLeft_pos`). -/
def turnsLeft : Micro → Nat
  | .sb1 | .su1 | .ri1 | .rf1 | .ro1 | .go1 | .gc1 => 1
  | .sn1 => 3
  | .sn2 => 2
  | .rx2 | .rw2 | .ww2 | .tr2 => 1
  | .ti1 => 5
  | .armSn1 => 4
  | .armSn2 => 3
  | .ap => 2
  | .ac => 1
  | .slp1 | .slp2 | .su2 | .su5 => 0

theorem turnsLeft_pos (op : Op) : isBounded op = true → ∀ k ∈ microSteps op, 0 < turnsLeft k := by
  cases op <;> decide

theorem turnsLeft_firstMicro_le (op : Op) : turnsLeft (firstMicro op) ≤ 5 := by cases op <;> decide

/-- `k'` is a micro-step of `op` that stands nearer its end than `k`. -/
abbrev Follows (op : Op) (k k' : Micro) : Prop :=
  k' ∈ microSteps op ∧ k' ≠ firstMicro op ∧ turnsLeft k' < turnsLeft k

theorem Snapshot.follows {op : Op} {first second after : Micro} (h : Snapshot op first second after) :
    Follows op first second ∧ Follows op second after ∧ Follows op first after := by
  cases h <;> decide

theorem Arming.follows {b : Word} {op : Op} {d : Word} {next : FrontEndPtr}
    (h : Arming b op d next) : Follows op .ap .ac := by
  cases h <;> decide

/-- What the first micro-step of `op` checks is in order (R101, R102, R110 to R112, R134): the latched
selector is legal, the use it needs is there, and no block count is at its maximum. -/
structure Fits (op : Op) (s : State) : Prop where
  legal : (instrOf op s.tmp.sel).wellFormed = true
  ready : ready op s.use = true
  room : ∀ d, blkGet s.blk d ≠ blkMax

/-- How far a bounded command has come, by the most front-end turns it still needs. -/
inductive BoundedPhase (s : State) : Nat → Prop where
  | issued (i : Instr) (hfe : s.fe = .decode) (hd : decode s.cmd = some i)
      (hb : isBounded (opOf i) = true) (hw : i.wellFormed = true) (hr : ready (opOf i) s.use = true)
      (room : ∀ d, blkGet s.blk d ≠ blkMax) : BoundedPhase s 6
  | command (op : Op) (k : Micro) (hfe : s.fe = .command op k) (hb : isBounded op = true)
      (hk : k ∈ microSteps op) (hfits : k = firstMicro op → Fits op s) :
      BoundedPhase s (turnsLeft k)
  | done (hfe : s.fe = .idle) : BoundedPhase s 0

/-- The invariant of a bounded command: no fault, and at most `n` front-end turns to go. -/
structure BoundedRun (n : Nat) (s : State) : Prop where
  running : s.fault = none
  phase : BoundedPhase s n

/-- The outcome of a front-end turn taken with `n` turns to go: a state without fault and with fewer. -/
def Advances (n : Nat) (o : Host.Outcome State Fault Refusal) : Prop :=
  ∃ m t, o = .next t ∧ m ≤ n - 1 ∧ BoundedRun m t

section
variable {op : Op} {k k' : Micro} {n : Nat} {s t : State} {o : Host.Outcome State Fault Refusal}

theorem Fits.of_quietKept (h : Fits op s) (hk : QuietKept s t) : Fits op t :=
  ⟨hk.tmp ▸ h.legal, hk.use ▸ h.ready, hk.blk ▸ h.room⟩

theorem BoundedRun.of_quietKept (h : BoundedRun n s) (hk : QuietKept s t) : BoundedRun n t := by
  obtain ⟨hf, hphase⟩ := h
  refine ⟨hk.fault.trans hf, ?_⟩
  cases hphase with
  | issued i hfe hd hb hw hr room =>
    exact .issued i (hk.fe.trans hfe) (hk.cmd ▸ hd) hb hw (hk.use ▸ hr) (hk.blk ▸ room)
  | command op k hfe hb hmem hfits =>
    exact .command op k (hk.fe.trans hfe) hb hmem fun h => (hfits h).of_quietKept hk
  | done hfe => exact .done (hk.fe.trans hfe)

theorem BoundedPhase.idle_of_zero (h : BoundedPhase s n) (hn : n = 0) : s.fe = .idle := by
  cases h with
  | issued => cases hn
  | command op k _ hb hk => exact absurd hn (turnsLeft_pos op hb k hk).ne'
  | done hfe => exact hfe

theorem advances_idle (run : o = .next t) (hf : t.fault = none) (hfe : t.fe = .idle) :
    Advances n o :=
  ⟨0, t, run, Nat.zero_le _, hf, .done hfe⟩

theorem advances_command (run : o = .next t) (hf : t.fault = none) (hfe : t.fe = .command op k')
    (hb : isBounded op = true) (h : Follows op k k') : Advances (turnsLeft k) o := by
  obtain ⟨hmem, hne, hlt⟩ := h
  exact ⟨_, t, run, Nat.le_sub_one_of_lt hlt, hf,
    .command op k' hfe hb hmem fun first => absurd first hne⟩

/-! ### Commands of one micro-step -/

theorem legalDepth_iff (sel : Selector) : legalDepth sel = true ↔ depthOfSel sel ≠ none := by
  revert sel
  decide

theorem legalReason_iff (sel : Selector) : legalReason sel = true ↔ reasonOfSel sel ≠ none := by
  revert sel
  decide

/-- With room in EM2's count the start of the RTC goes on, first use or not (R111, R134). -/
theorem rtcStart_runs (r : Reason) (next : FrontEndPtr) (hf : s.fault = none)
    (room : blkGet s.blk .em2 ≠ blkMax) :
    (rtcStart r next s).fault = none ∧ (rtcStart r next s).fe = next := by
  rcases rtcStart_cases r next s with ⟨_, he⟩ | ⟨_, full, _⟩ | ⟨_, _, he⟩
  · rw [he]
    exact ⟨hf, rfl⟩
  · exact absurd full room
  · rw [he]
    exact ⟨hf, rfl⟩

theorem rtcStop_runs (r : Reason) (hf : s.fault = none) :
    (rtcStop r s).fault = none ∧ (rtcStop r s).fe = .idle := by
  rcases rtcStop_cases r s with ⟨_, he⟩ | ⟨_, he⟩ <;> rw [he] <;> exact ⟨hf, rfl⟩

theorem exec_only_advances (hop : microSteps op = [firstMicro op]) (hf : s.fault = none)
    (hfe : s.fe = .command op (firstMicro op)) (hfits : Fits op s) :
    Advances n (exec (instrOf op s.tmp.sel) s) := by
  obtain ⟨legal, ready, room⟩ := hfits
  cases op with
  | sleepBlock =>
    obtain ⟨d, hd⟩ := Option.ne_none_iff_exists'.mp ((legalDepth_iff _).mp legal)
    have run : exec (.sleepBlock s.tmp.sel) s = .next (stepSB1 s.tmp.sel s) :=
      commandStep_atStep hf hfe rfl
    rw [stepSB1_of_room hd (room d)] at run
    exact advances_idle run hf rfl
  | sleepUnblock =>
    obtain ⟨d, hd⟩ := Option.ne_none_iff_exists'.mp ((legalDepth_iff _).mp legal)
    have run : exec (.sleepUnblock s.tmp.sel) s = .next (stepSU1 s.tmp.sel s) :=
      commandStep_atStep hf hfe rfl
    rw [stepSU1_of_depth s hd] at run
    exact advances_idle run hf rfl
  | rtcInit =>
    obtain ⟨r, hr⟩ := Option.ne_none_iff_exists'.mp ((legalReason_iff _).mp legal)
    have run : exec (.rtcInit s.tmp.sel) s = .next (stepRI1 s.tmp.sel s) :=
      commandStep_atStep hf hfe rfl
    rw [stepRI1_of_reason s hr] at run
    obtain ⟨running, idle⟩ := rtcStart_runs r .idle hf (room .em2)
    exact advances_idle run running idle
  | rtcFree =>
    obtain ⟨r, hr⟩ := Option.ne_none_iff_exists'.mp ((legalReason_iff _).mp legal)
    have run : exec (.rtcFree s.tmp.sel) s = .next (stepRF1 s.tmp.sel s) :=
      commandStep_atStep hf hfe rfl
    rw [stepRF1_of_reason s hr] at run
    obtain ⟨running, idle⟩ := rtcStop_runs r hf
    exact advances_idle run running idle
  | rtcReadOvf =>
    have run : exec .rtcReadOvf s = .next (needRunning s (respond (ovfc s) s)) :=
      commandStep_atStep hf hfe rfl
    rw [needRunning_running (useEmpty_of_ready rfl ready)] at run
    exact advances_idle run hf rfl
  | tickerGetOvfHi =>
    have run : exec .tickerGetOvfHi s = .next (needTicker s (respond (ovfc s >>> 8) s)) :=
      commandStep_atStep hf hfe rfl
    rw [needTicker_running (lpt_of_ready rfl ready)] at run
    exact advances_idle run hf rfl
  | tickerGetCompare =>
    have run : exec .tickerGetCompare s = .next (needTicker s (respond s.cache s)) :=
      commandStep_atStep hf hfe rfl
    rw [needTicker_running (lpt_of_ready rfl ready)] at run
    exact advances_idle run hf rfl
  | _ => cases hop

/-! ### Snapshots and TI1 -/

/-- A snapshot that opens its command finds the use it needs, and the one of TICKER_INIT needs none. -/
theorem Snapshot.ready_of_fits {first second after : Micro} (h : Snapshot op first second after)
    (hb : isBounded op = true) (hfits : first = firstMicro op → Fits op s) :
    ready op s.use = true := by
  cases h with
  | readExt | readWall | writeWall | tickerRead | setIntArm => exact (hfits rfl).ready
  | initArm => rfl
  | sleepUntil | sleepUntilArm => cases hb

theorem Snapshot.first_advances {first second after : Micro} (h : Snapshot op first second after)
    (hb : isBounded op = true) (hf : s.fault = none) (hfe : s.fe = .command op first)
    (hfits : first = firstMicro op → Fits op s) :
    Advances (turnsLeft first) (exec (instrOf op s.tmp.sel) s) := by
  obtain ⟨to_second, _, to_after⟩ := h.follows
  have run := h.exec_first hf hfe (h.ready_of_fits hb hfits) s.tmp.sel
  rcases snapFirst_cases (.command op second) (.command op after) s with ⟨_, he⟩ | ⟨_, he⟩ <;>
    rw [he] at run
  · exact advances_command run hf rfl hb to_after
  · exact advances_command run hf rfl hb to_second

theorem ti1_advances (hf : s.fault = none) (hfe : s.fe = .command .tickerInit .ti1)
    (hfits : Fits .tickerInit s) : Advances (turnsLeft .ti1) (exec .tickerInit s) := by
  obtain ⟨running, next⟩ :=
    rtcStart_runs .lpt (.command .tickerInit .armSn1) hf (hfits.room .em2)
  exact advances_command (exec_ti1 hf hfe) running next rfl (by decide)

/-! ### Every micro-step -/

/-- What kind of micro-step a bounded command's is. -/
inductive BoundedStep (op : Op) : Micro → Prop where
  | only (h : microSteps op = [firstMicro op]) : BoundedStep op (firstMicro op)
  | start (h : op = .tickerInit) : BoundedStep op .ti1
  | sample {first second after : Micro} (h : Snapshot op first second after) : BoundedStep op first
  | resample {first second after : Micro} (h : Snapshot op first second after) :
      BoundedStep op second
  | readDone {last : Micro} (h : TimeRead op last) : BoundedStep op last
  | wallDone {last : Micro} {finish : State → State} (h : WallCommand op last finish) :
      BoundedStep op last
  | prepare (h : ∀ b, ∃ d, Arming b op d .idle) : BoundedStep op .ap
  | commit (h : ∀ b, ∃ d, Arming b op d .idle) : BoundedStep op .ac

theorem boundedStep_of_mem (hb : isBounded op = true) (hk : k ∈ microSteps op) :
    BoundedStep op k := by
  cases op <;> simp only [microSteps, List.mem_cons, List.not_mem_nil, or_false] at hk
  case sleepEnter | tickerSleepUntil => cases hb
  case sleepBlock | sleepUnblock | rtcInit | rtcFree | rtcReadOvf | tickerGetOvfHi |
      tickerGetCompare =>
    subst hk
    exact .only rfl
  case rtcReadExt =>
    rcases hk with rfl | rfl | rfl
    exacts [.sample .readExt, .resample .readExt, .readDone .ext]
  case rtcReadWall =>
    rcases hk with rfl | rfl | rfl
    exacts [.sample .readWall, .resample .readWall, .wallDone .read]
  case rtcWriteWall =>
    rcases hk with rfl | rfl | rfl
    exacts [.sample .writeWall, .resample .writeWall, .wallDone .write]
  case tickerRead =>
    rcases hk with rfl | rfl | rfl
    exacts [.sample .tickerRead, .resample .tickerRead, .readDone .ticker]
  case tickerInit =>
    have arms (b : Word) : ∃ d, Arming b .tickerInit d .idle := ⟨_, .init⟩
    rcases hk with rfl | rfl | rfl | rfl | rfl
    exacts [.start rfl, .sample .initArm, .resample .initArm, .prepare arms, .commit arms]
  case tickerSetInt =>
    have arms (b : Word) : ∃ d, Arming b .tickerSetInt d .idle := ⟨_, .setInt⟩
    rcases hk with rfl | rfl | rfl | rfl
    exacts [.sample .setIntArm, .resample .setIntArm, .prepare arms, .commit arms]

theorem exec_advances (hb : isBounded op = true) (hk : k ∈ microSteps op) (hf : s.fault = none)
    (hfe : s.fe = .command op k) (hfits : k = firstMicro op → Fits op s) :
    Advances (turnsLeft k) (exec (instrOf op s.tmp.sel) s) := by
  cases boundedStep_of_mem hb hk with
  | only hop => exact exec_only_advances hop hf hfe (hfits rfl)
  | start hop =>
    subst hop
    exact ti1_advances hf hfe (hfits rfl)
  | sample h => exact h.first_advances hb hf hfe hfits
  | resample h =>
    obtain ⟨_, to_after, _⟩ := h.follows
    exact advances_command (h.exec_second hf hfe _) hf rfl hb to_after
  | readDone h => exact advances_idle (h.exec_last hf hfe _) hf rfl
  | wallDone h =>
    have run := h.exec_last hf hfe s.tmp.sel
    cases h <;> exact advances_idle run hf rfl
  | prepare h =>
    obtain ⟨d, arming⟩ := h s.tmp.b
    exact advances_command (arming.exec_ap rfl hf hfe _) hf rfl hb arming.follows
  | commit h =>
    obtain ⟨d, arming⟩ := h s.tmp.b
    exact advances_idle (arming.exec_ac hf hfe _) hf rfl

theorem BoundedRun.frontEnd (h : BoundedRun n s) : Advances n (afterTurn .frontEnd s) := by
  obtain ⟨hf, hphase⟩ := h
  cases hphase with
  | issued i hfe hd hb hw hr room =>
    have fits : Fits (opOf i) (latch i { s with agenda := [] }) :=
      ⟨(congrArg Instr.wellFormed (instrOf_opOf i)).trans hw, hr, room⟩
    exact ⟨_, _, afterTurn_decode hf hfe hd, turnsLeft_firstMicro_le (opOf i), hf,
      .command _ _ rfl hb (firstMicro_mem (opOf i)) fun _ => fits⟩
  | command op k hfe hb hk hfits =>
    rw [afterTurn_command hf hfe]
    exact exec_advances (s := { s with agenda := [] }) hb hk hf hfe
      fun first => ⟨(hfits first).legal, (hfits first).ready, (hfits first).room⟩
  | done hfe => exact advances_idle (afterTurn_idle hf hfe) hf hfe

end

/-- Settles O54: `BoundedRun` holds with six turns to go once the word is issued, and every quiet schedule
runs it down to its last phase. -/
theorem boundedCommandsComplete : Obligations.BoundedCommandsComplete := by
  intro i ts s hf hfe hw hb hr room hq hn
  have start : BoundedRun 6 { s with cmd := encode i, fe := .decode, agenda := [] } :=
    ⟨hf, .issued i rfl (decode_encode i) hb hw hr room⟩
  obtain ⟨t, run, hend⟩ := runTurns_quiet (P := BoundedRun) (·.running) BoundedRun.of_quietKept
    BoundedRun.frontEnd ts start hq hn
  exact ⟨t, (runTurns_cons (afterTurn_issue hf hfe)).trans run, hend.phase.idle_of_zero rfl,
    hend.running⟩

end Sys2Proof.Machine
end
